-- ==== Sys2Proof/Word.lean ====
section
/-! DEFINITION. The words of the block: bytes, HID usages, modifier indices, and the two instruction formats
(spec/30_encoding.md, preamble). A timestamp is a `Nat`: its width is the parameter `W`, and every operation keeps it
below `2^W` (00_scope.md R8, log entry 5). -/

namespace Sys2Proof

/-- A protocol byte (30_encoding.md R76): 8 bits, bit 0 least significant (00_scope.md §4). -/
abbrev Byte := BitVec 8

/-- A HID usage, the source's "keycode": 8 bits (30_encoding.md R80). -/
abbrev Key := BitVec 8

/-- A modifier index `k`, 0 = L-Ctrl .. 7 = R-GUI (10_state.md R26). -/
abbrev ModIdx := Fin 8

/-- The block's two instruction formats: the event at its input (EVENT, 2 bits, 30_encoding.md R71) and the protocol
byte the Frame Decoder forms (PBYTE, 8 bits, R77). -/
inductive InstrWord where
  | event (ev : BitVec 2)
  | pbyte (b : Byte)
  deriving DecidableEq, Repr

end Sys2Proof
end

