-- ==== Sys2Proof/Config.lean ====
section
/-! DEFINITION. The implementation parameters of the block (spec/00_scope.md R6) as one record, and the free values
of its input ports (log entry 3). The default tables and the parameter constraint are in Machine/Params.lean. -/

namespace Sys2Proof

/-- `IF_MODE` (00_scope.md R6, 40_cycle.md R100): debounced edge events in, or raw line levels in. -/
inductive IfMode where
  | edge
  | raw
  deriving DecidableEq, Repr

/-- `MOD_MODE` (00_scope.md R6): one modifier discipline per instance (43_dispatch_control.md R177). -/
inductive ModMode where
  | pressRelease
  | toggle
  deriving DecidableEq, Repr

/-- A present entry of `CHAR_TABLE` (20_memory.md R51): keycode and needs-shift. -/
structure CharEntry where
  key   : Key
  shift : Bool
  deriving DecidableEq, Repr

/-- The parameters of an instance (00_scope.md R6): "fixed for the lifetime of an instance; none is state". The
model carries them in State and no step writes them (log entry 1). -/
structure Config where
  /-- `W`: width of every timestamp, in bits. -/
  w         : Nat
  /-- `TICK`: real duration of one timestamp unit, in nanoseconds (log entry 17). -/
  tickNs    : Nat
  /-- `START_EN`: the start-symbol variant. -/
  startEn   : Bool
  /-- `T_START`: the start-symbol window, in ticks. -/
  tStart    : Nat
  /-- `T_IDLE`: the inactivity timeout, in ticks. -/
  tIdle     : Nat
  /-- `MOD_MODE`. -/
  modMode   : ModMode
  /-- `FN_EN`: the Fn layer is present. -/
  fnEn      : Bool
  /-- `FN_MAP[0..11]`: `none` is the spec's `NONE`. -/
  fnMap     : Vector (Option ModIdx) 12
  /-- `NAV_TABLE[0..13]`. -/
  navTable  : Vector Key 14
  /-- `CHAR_TABLE[0x20..0x7E]`, entry `i` for byte `0x20 + i`: `none` is the spec's `ABSENT`. -/
  charTable : Vector (Option CharEntry) 95
  /-- `IF_MODE`. -/
  ifMode    : IfMode
  /-- `T_DB`: the debounce interval, in ticks (RAW mode only). -/
  tDb       : Nat
  deriving DecidableEq, Repr

/-- FREE VALUE (log entry 3): the level of `rst` in step `n` when the host has committed to no input for it. -/
opaque Config.freeRst : Nat → Bool
/-- FREE VALUE (log entry 3): the value of `now` in step `n` when the host has committed to no input for it. -/
opaque Config.freeNow : Nat → Nat
/-- FREE VALUE (log entry 3): the value of `ev` in step `n` when the host has committed to no input for it. -/
opaque Config.freeEv : Nat → BitVec 2
/-- FREE VALUE (log entry 3): the value of `raw` in step `n` when the host has committed to no input for it. -/
opaque Config.freeRaw : Nat → BitVec 2

end Sys2Proof
end

