-- ==== Sys2Proof/Machine/Params.lean ====
section
/-! DEFINITION. The default parameters (spec/00_scope.md R6), the default tables (44_dispatch_keys.md R201, R204, R209)
and the constraint every configuration must satisfy (R7). -/

namespace Sys2Proof

/-- A `CHAR_TABLE` entry with needs-shift 0. -/
def plain (k : Key) : Option CharEntry := some ⟨k, false⟩

/-- A `CHAR_TABLE` entry with needs-shift 1. -/
def shifted (k : Key) : Option CharEntry := some ⟨k, true⟩

/-- `CHAR_TABLE[0x20..0x2F]` (44_dispatch_keys.md R209). -/
def charRows20 : List (Option CharEntry) :=
  [
    plain 0x2C, shifted 0x1E, shifted 0x34, shifted 0x20,
    shifted 0x21, shifted 0x22, shifted 0x24, plain 0x34,
    shifted 0x26, shifted 0x27, shifted 0x25, shifted 0x2E,
    plain 0x36, plain 0x2D, plain 0x37, plain 0x38 ]

/-- `CHAR_TABLE[0x30..0x3F]` (44_dispatch_keys.md R209). -/
def charRows30 : List (Option CharEntry) :=
  [
    plain 0x27, plain 0x1E, plain 0x1F, plain 0x20,
    plain 0x21, plain 0x22, plain 0x23, plain 0x24,
    plain 0x25, plain 0x26, shifted 0x33, plain 0x33,
    shifted 0x36, plain 0x2E, shifted 0x37, shifted 0x38 ]

/-- `CHAR_TABLE[0x40..0x4F]` (44_dispatch_keys.md R209). -/
def charRows40 : List (Option CharEntry) :=
  [
    shifted 0x1F, shifted 0x04, shifted 0x05, shifted 0x06,
    shifted 0x07, shifted 0x08, shifted 0x09, shifted 0x0A,
    shifted 0x0B, shifted 0x0C, shifted 0x0D, shifted 0x0E,
    shifted 0x0F, shifted 0x10, shifted 0x11, shifted 0x12 ]

/-- `CHAR_TABLE[0x50..0x5F]` (44_dispatch_keys.md R209). -/
def charRows50 : List (Option CharEntry) :=
  [
    shifted 0x13, shifted 0x14, shifted 0x15, shifted 0x16,
    shifted 0x17, shifted 0x18, shifted 0x19, shifted 0x1A,
    shifted 0x1B, shifted 0x1C, shifted 0x1D, plain 0x2F,
    plain 0x31, plain 0x30, shifted 0x23, shifted 0x2D ]

/-- `CHAR_TABLE[0x60..0x6F]` (44_dispatch_keys.md R209). -/
def charRows60 : List (Option CharEntry) :=
  [
    plain 0x35, plain 0x04, plain 0x05, plain 0x06,
    plain 0x07, plain 0x08, plain 0x09, plain 0x0A,
    plain 0x0B, plain 0x0C, plain 0x0D, plain 0x0E,
    plain 0x0F, plain 0x10, plain 0x11, plain 0x12 ]

/-- `CHAR_TABLE[0x70..0x7E]` (44_dispatch_keys.md R209). -/
def charRows70 : List (Option CharEntry) :=
  [
    plain 0x13, plain 0x14, plain 0x15, plain 0x16,
    plain 0x17, plain 0x18, plain 0x19, plain 0x1A,
    plain 0x1B, plain 0x1C, plain 0x1D, shifted 0x2F,
    shifted 0x31, shifted 0x30, shifted 0x35 ]

/-- The default `CHAR_TABLE`, the US layout (44_dispatch_keys.md R209): entry `i` is for byte `0x20 + i`. -/
def Config.defaultCharTable : Vector (Option CharEntry) 95 :=
  ⟨(charRows20 ++ charRows30 ++ charRows40 ++ charRows50 ++ charRows60 ++ charRows70).toArray, by decide⟩

/-- The default `NAV_TABLE` (44_dispatch_keys.md R201): arrows Up, Down, Left, Right, then backspace, enter, tab,
escape, delete, insert, home, end, page up, page down. -/
def Config.defaultNavTable : Vector Key 14 :=
  ⟨#[0x52, 0x51, 0x50, 0x4F, 0x2A, 0x28, 0x2B, 0x29, 0x4C, 0x49, 0x4A, 0x4D, 0x4B, 0x4E], by decide⟩

/-- The default `FN_MAP` (44_dispatch_keys.md R204): every entry L-Ctrl. -/
def Config.defaultFnMap : Vector (Option ModIdx) 12 := Vector.replicate 12 (some 0)

/-- The default parameters (00_scope.md R6). -/
def Config.default : Config :=
  { w := 32, tickNs := 1000, startEn := true, tStart := 50000, tIdle := 2000000, modMode := .pressRelease,
    fnEn := true, fnMap := Config.defaultFnMap, navTable := Config.defaultNavTable,
    charTable := Config.defaultCharTable, ifMode := .edge, tDb := 10000 }

/-- The constraint of 00_scope.md R7: `0 < T_START < T_IDLE < 2^(W-1)`, and `0 < T_DB` in RAW mode. -/
def Config.valid (c : Config) : Bool :=
  0 < c.tStart && c.tStart < c.tIdle && c.tIdle < 2 ^ (c.w - 1) && (c.ifMode == .edge || 0 < c.tDb)

/-- `n` milliseconds in ticks: 30_encoding.md R85 at the default `TICK`, 1000 ticks each (log entry 17). -/
def Config.ticksOfMs (c : Config) (n : Nat) : Nat := n * 1000000 / c.tickNs

/-- The largest gap between cycles that keeps every elapsed time real (70_reset_and_hazards.md R273):
`G_MAX = 2^W - 1 - max(T_IDLE, T_DB)`. -/
def Config.gMax (c : Config) : Nat := 2 ^ c.w - 1 - max c.tIdle c.tDb

end Sys2Proof
end

