-- ==== Sys2Proof/Syntax.lean ====
section
/-! DEFINITION. The instructions of spec/opcode_table.json: one constructor per mnemonic; the 58 rows are these 15
under several words, states and parameters (log entry 12). -/

namespace Sys2Proof

/-- The instructions: the four events (30_encoding.md R71) and the eleven classes of protocol byte (R77), each with
the operand of R84. -/
inductive Instr where
  /-- `EV_NONE`: no edge this cycle (42_frame_decoder.md R152). -/
  | evNone
  /-- `EV_ZERO`: an edge on line ZERO (R145, R147, R149 to R151). -/
  | evZero
  /-- `EV_ONE`: an edge on line ONE (R146, R148, R149 to R151). -/
  | evOne
  /-- `ev = 01`: reserved (30_encoding.md R79). -/
  | evReserved
  /-- `CTRLCHR`, bytes 0x01 to 0x1A, `j = b - 0x01` (44_dispatch_keys.md R206). -/
  | ctrlchr (j : Fin 26)
  /-- `PRINT`, bytes 0x20 to 0x7E; `i = b - 0x20` is the entry of `CHAR_TABLE` (R207, R208). -/
  | print (i : Fin 95)
  /-- `MODP`, bytes 0x80 to 0x87 (43_dispatch_control.md R174, R175). -/
  | modp (k : ModIdx)
  /-- `MODR`, bytes 0x88 to 0x8F (R176). -/
  | modr (k : ModIdx)
  /-- `NAV`, bytes 0x90 to 0x9D (44_dispatch_keys.md R200). -/
  | nav (n : Fin 14)
  /-- `ECLR`, byte 0x9E (43_dispatch_control.md R173). -/
  | eclr
  /-- `FKEY`, bytes 0xA0 to 0xAB (44_dispatch_keys.md R202, R203). -/
  | fkey (n : Fin 12)
  /-- `CAPS`, byte 0xB0 (R205). -/
  | caps
  /-- `FNON`, byte 0xB1 (43_dispatch_control.md R171). -/
  | fnon
  /-- `FNOFF`, byte 0xB2 (R172). -/
  | fnoff
  /-- `UNK`, every other byte (44_dispatch_keys.md R210). -/
  | unk (u : Byte)
  deriving DecidableEq, Repr

end Sys2Proof
end

