-- ==== Sys2Proof/WellFormed.lean ====
section
/-! DEFINITION. Which instructions some word stands for under given parameters (spec/30_encoding.md R78, R79). The
ranges of the operands are in their types. -/

namespace Sys2Proof

/-- The bytes that are `UNK`, as 30_encoding.md R79 lists them: 89 in every configuration, 0xB1 and 0xB2 when
`FN_EN = 0`, 0x88 to 0x8F when `MOD_MODE = TOGGLE`. (Decode.lean follows R78 instead; Laws/Decode.lean proves that
the two agree.) -/
def isUnkByte (c : Config) (u : Byte) : Bool :=
  u == 0x00 || (0x1B ≤ u && u ≤ 0x1F) || u == 0x7F || u == 0x9F || (0xAC ≤ u && u ≤ 0xAF) || 0xB3 ≤ u
    || (!c.fnEn && (u == 0xB1 || u == 0xB2))
    || (c.modMode == .toggle && (0x88 ≤ u && u ≤ 0x8F))

/-- `i` is what some word decodes to under the parameters `c`: the layer bytes need `FN_EN = 1`, the modifier release
needs `MOD_MODE = PRESS_RELEASE`, and `UNK` carries a byte of R79. -/
def Instr.wf (c : Config) : Instr → Bool
  | .evNone | .evZero | .evOne | .evReserved => true
  | .ctrlchr _ | .print _ | .modp _ | .nav _ | .eclr | .fkey _ | .caps => true
  | .modr _ => c.modMode == .pressRelease
  | .fnon | .fnoff => c.fnEn
  | .unk u => isUnkByte c u

end Sys2Proof
end

