-- ==== Sys2Proof/Decode.lean ====
section
/-! DEFINITION. Decoding both instruction formats (spec/30_encoding.md R71, R78, R84) and, after it, encoding them.
Decoding is total: every 2-bit event and every byte is some instruction; the reserved event is rejected by its own
name, `evReserved`, which the machine refuses. -/

namespace Sys2Proof

/-- The classes of protocol byte (30_encoding.md R77). -/
inductive PClass where
  | ctrlchr
  | print
  | modp
  | modr
  | nav
  | eclr
  | fkey
  | caps
  | fnon
  | fnoff
  | unk
  deriving DecidableEq, Repr

/-- `class(b)` (30_encoding.md R78), the tests in the order written there. -/
def classOf (c : Config) (b : Byte) : PClass :=
  if b = 0xB1 ∨ b = 0xB2 then
    if c.fnEn then (if b = 0xB1 then .fnon else .fnoff) else .unk
  else if b = 0x9E then .eclr
  else if 0x80 ≤ b ∧ b ≤ 0x87 then .modp
  else if 0x88 ≤ b ∧ b ≤ 0x8F then (if c.modMode = .pressRelease then .modr else .unk)
  else if 0x90 ≤ b ∧ b ≤ 0x9D then .nav
  else if 0xA0 ≤ b ∧ b ≤ 0xAB then .fkey
  else if b = 0xB0 then .caps
  else if 0x01 ≤ b ∧ b ≤ 0x1A then .ctrlchr
  else if 0x20 ≤ b ∧ b ≤ 0x7E then .print
  else .unk

/-- `j = b - 0x01` of a `CTRLCHR` byte (30_encoding.md R84); read only on the bytes of that class. -/
def operandJ (b : Byte) : Fin 26 := Fin.ofNat 26 (b.toNat - 0x01)

/-- The entry `b - 0x20` of `CHAR_TABLE` for a `PRINT` byte `c = b` (R84, R51); read only on that class. -/
def operandC (b : Byte) : Fin 95 := Fin.ofNat 95 (b.toNat - 0x20)

/-- `k = b[2:0]` of a `MODP` or `MODR` byte (R84). -/
def operandK (b : Byte) : ModIdx := (b.extractLsb' 0 3).toFin

/-- `n = b[3:0]` of a `NAV` byte, 0..13 (R84); read only on that class. -/
def operandNav (b : Byte) : Fin 14 := Fin.ofNat 14 (b.extractLsb' 0 4).toNat

/-- `n = b[3:0]` of an `FKEY` byte, 0..11 (R84); read only on that class. -/
def operandFkey (b : Byte) : Fin 12 := Fin.ofNat 12 (b.extractLsb' 0 4).toNat

/-- Decoding an event (30_encoding.md R71): `ev[1]` is "an edge is present", `ev[0]` is the line. -/
def decodeEvent (ev : BitVec 2) : Instr :=
  if ev = 0b00 then .evNone
  else if ev = 0b10 then .evZero
  else if ev = 0b11 then .evOne
  else .evReserved

/-- Decoding a protocol byte (30_encoding.md R78, R84). -/
def decodePByte (c : Config) (b : Byte) : Instr :=
  match classOf c b with
  | .ctrlchr => .ctrlchr (operandJ b)
  | .print => .print (operandC b)
  | .modp => .modp (operandK b)
  | .modr => .modr (operandK b)
  | .nav => .nav (operandNav b)
  | .eclr => .eclr
  | .fkey => .fkey (operandFkey b)
  | .caps => .caps
  | .fnon => .fnon
  | .fnoff => .fnoff
  | .unk => .unk b

/-- Decoding a word of either format. -/
def decode (c : Config) : InstrWord → Instr
  | .event ev => decodeEvent ev
  | .pbyte b => decodePByte c b

/-- The word of an instruction, from the encodings of 30_encoding.md R71 and R77. -/
def encode : Instr → InstrWord
  | .evNone => .event 0b00
  | .evZero => .event 0b10
  | .evOne => .event 0b11
  | .evReserved => .event 0b01
  | .ctrlchr j => .pbyte (BitVec.ofNat 8 (0x01 + j.val))
  | .print i => .pbyte (BitVec.ofNat 8 (0x20 + i.val))
  | .modp k => .pbyte (BitVec.ofNat 8 (0x80 + k.val))
  | .modr k => .pbyte (BitVec.ofNat 8 (0x88 + k.val))
  | .nav n => .pbyte (BitVec.ofNat 8 (0x90 + n.val))
  | .eclr => .pbyte 0x9E
  | .fkey n => .pbyte (BitVec.ofNat 8 (0xA0 + n.val))
  | .caps => .pbyte 0xB0
  | .fnon => .pbyte 0xB1
  | .fnoff => .pbyte 0xB2
  | .unk u => .pbyte u

/-- The word that `nbits` bits of value `w` stand for. The opcode table numbers two formats from bit 0, and both fill
one byte once rounded up to whole bytes, so four values could be either: `w < 4` is read as an EVENT and every other
byte as a PBYTE (log entry 11). Nothing else is a word of this block. -/
def tableWord (nbits w : Nat) : Option InstrWord :=
  if w < 4 ∧ nbits ≤ 8 then some (.event (BitVec.ofNat 2 w))
  else if nbits = 8 ∧ w < 256 then some (.pbyte (BitVec.ofNat 8 w))
  else none

/-- The instruction a row of the opcode table stands for, under the default parameters (log entry 11). -/
def decodeTableWord (nbits w : Nat) : Option Instr :=
  (tableWord nbits w).map (decode Config.default)

end Sys2Proof
end

