-- ==== Sys2Proof/Machine/State.lean ====
section
/-! DEFINITION. The state of the block as plain data: the spec's state (spec/10_state.md R20), its parameters
(00_scope.md R6), its ports (30_encoding.md R70) and the model's own two fields for the host's inputs. -/

namespace Sys2Proof.Machine

/-- `fd_st`, "one of {AwaitingStart0, AwaitingStart1, Receiving}" (10_state.md R21), "a three-valued type". -/
inductive FdState where
  | as0
  | as1
  | rx
  deriving DecidableEq, Repr

/-- One line's sampler state: `ls_db[l]`, `ls_raw[l]`, `ls_tchg[l]` (10_state.md R28 to R30); `true` is level 1. -/
structure LineState where
  db   : Bool
  raw  : Bool
  tchg : Nat
  deriving DecidableEq, Repr

/-- A HID command (30_encoding.md R80). -/
inductive Cmd where
  | press (key : Key)
  | release (key : Key)
  | releaseAll
  | layout (c : Byte)
  deriving DecidableEq, Repr

/-- The diagnostic of a cycle (30_encoding.md R82). -/
inductive Diag where
  | none
  | startTimeout
  | frameTimeout (bits : Byte)
  | unknown (b : Byte)
  deriving DecidableEq, Repr

/-- The outputs of a step: the command list, `diag`, `byte_v` and `byte_o` (30_encoding.md R70, R80, R82, R83).
`cmd_n` is the length of `cmds`. -/
structure Outputs where
  cmds  : List Cmd
  diag  : Diag
  byteV : Bool
  byteO : Byte
  deriving DecidableEq, Repr

/-- The inputs of a step (30_encoding.md R70): `ev` is read in EDGE mode, `raw` in RAW mode (`raw[0]` is line ZERO,
R73). `now` is the number on the `W`-bit port; sampling keeps it modulo `2^W`. -/
structure Input where
  rst : Bool
  now : Nat
  ev  : BitVec 2
  raw : BitVec 2
  deriving DecidableEq, Repr

/-- The state of the block. -/
structure State where
  /-- The parameters (00_scope.md R6); no step writes them (log entry 1). -/
  cfg      : Config
  /-- `fd_st` (10_state.md R21). -/
  fdSt     : FdState
  /-- `fd_cnt` (R22). -/
  fdCnt    : BitVec 3
  /-- `fd_buf` (R23). -/
  fdBuf    : BitVec 7
  /-- `fd_tref` (R24). -/
  fdTref   : Nat
  /-- `fd_rstreq` (R25). -/
  fdRstreq : Bool
  /-- `latch`, bit `k` for modifier `k` (R26). -/
  latch    : BitVec 8
  /-- `fn` (R27). -/
  fn       : Bool
  /-- `ls_db[0]`, `ls_raw[0]`, `ls_tchg[0]`: line ZERO (R28 to R30). -/
  ls0      : LineState
  /-- `ls_db[1]`, `ls_raw[1]`, `ls_tchg[1]`: line ONE (R28 to R30). -/
  ls1      : LineState
  /-- The input ports as this step sampled them (30_encoding.md R70; log entry 2). -/
  port     : Input
  /-- The outputs of this step (30_encoding.md R70; log entry 4). -/
  out      : Outputs
  /-- The model's own: the inputs the host has committed to, one per step, oldest first (log entry 2). -/
  inputs   : List Input
  /-- The model's own: how many steps have sampled their inputs, the index of the free inputs (log entry 3). -/
  cycles   : Nat
  deriving DecidableEq, Repr

/-- The block raises no fault: "Nothing in this core is fatal: malformed input never halts the control loop."
(40_cycle.md R107, 60_exceptions.md R240, R242; log entry 13.) -/
inductive Fault where
  deriving DecidableEq, Repr

/-- Why a step is refused. All are SAFE: the step has no next state, so nothing can be proved about one. -/
inductive Refusal where
  /-- Raised by `exec` for an instruction that has no meaning yet (none is left). Safe. -/
  | notModelled (mnemonic : String)
  /-- Raised by `execEvReserved`: the cycle presents `ev = 01` (30_encoding.md R79, 93_implementation_defined.md I1,
  which asks for this refusal). Safe. -/
  | reservedEvent
  /-- Raised by `step`: the parameters break 00_scope.md R7 (93_implementation_defined.md I3 asks for this refusal;
  log entry 6). Safe. -/
  | illegalConfig
  deriving DecidableEq, Repr

/-- What a step or a meaning answers. -/
abbrev Result := Host.Outcome State Fault Refusal

/-- No command, no diagnostic, no byte: what a cycle's outputs start from (40_cycle.md R103). -/
def Outputs.empty : Outputs := { cmds := [], diag := .none, byteV := false, byteO := 0x00 }

/-- The reset value of a line's sampler state (41_line_sampler.md R125). -/
def LineState.reset : LineState := { db := true, raw := true, tchg := 0 }

/-- The idle levels of the input ports: no reset, time 0, no edge, both lines pulled up (log entry 8). -/
def Input.idle : Input := { rst := false, now := 0, ev := 0b00, raw := 0b11 }

/-- The machine right after reset (70_reset_and_hazards.md R270) under the default parameters (00_scope.md R6; log
entry 8): with `START_EN = 1`, `fd_st` is AS0. -/
def State.reset : State :=
  { cfg := Config.default, fdSt := .as0, fdCnt := 0, fdBuf := 0, fdTref := 0, fdRstreq := false, latch := 0x00,
    fn := false, ls0 := LineState.reset, ls1 := LineState.reset, port := Input.idle, out := Outputs.empty,
    inputs := [], cycles := 0 }

end Sys2Proof.Machine
end

