-- ==== Sys2Proof/Machine/Flags.lean ====
section
/-! DEFINITION. The block's only flags (spec/10_state.md R34): the latch bits, the layer flag and the reset request.
No arithmetic sets a flag. -/

namespace Sys2Proof.Machine

/-- `latch[k]` (10_state.md R26). -/
def latchBit (l : BitVec 8) (k : ModIdx) : Bool := l.getLsbD k.val

/-- `latch` with bit `k` set. -/
def latchSet (l : BitVec 8) (k : ModIdx) : BitVec 8 := l ||| (1#8 <<< k.val)

/-- `latch` with bit `k` clear. -/
def latchClear (l : BitVec 8) (k : ModIdx) : BitVec 8 := l &&& ~~~(1#8 <<< k.val)

/-- `latch <- v`. -/
def State.setLatch (v : BitVec 8) (s : State) : State := { s with latch := v }

/-- `fn <- v` (10_state.md R27). -/
def State.setFn (v : Bool) (s : State) : State := { s with fn := v }

/-- `fd_rstreq <- 1` (10_state.md R25). -/
def State.requestReset (s : State) : State := { s with fdRstreq := true }

end Sys2Proof.Machine
end

