-- ==== Sys2Proof/Machine/Operands.lean ====
section
/-! DEFINITION. What the operands of the dispatcher's rules stand for: the fixed HID usages (spec/30_encoding.md R81),
the table reads (20_memory.md R52) and the coding of commands and diagnostics at the ports (R80, R82). -/

namespace Sys2Proof.Machine

/-- `MODKEY(k) = 0xE0 + k` (30_encoding.md R81). -/
def modKey (k : ModIdx) : Key := 0xE0 + BitVec.ofNat 8 k.val

/-- `KEY_CAPS = 0x39` (30_encoding.md R81). -/
def keyCaps : Key := 0x39

/-- `FKEYKEY(n) = 0x3A + n` (30_encoding.md R81). -/
def fkeyKey (n : Fin 12) : Key := 0x3A + BitVec.ofNat 8 n.val

/-- `LETTERKEY(j) = 0x04 + j` (30_encoding.md R81). -/
def letterKey (j : Fin 26) : Key := 0x04 + BitVec.ofNat 8 j.val

/-- L-Ctrl is modifier 0 (10_state.md R26). -/
def lCtrl : ModIdx := 0

/-- L-Shift is modifier 1 (10_state.md R26). -/
def lShift : ModIdx := 1

/-- The ASCII code of a printable operand: `c = b` (30_encoding.md R84). -/
def charCode (i : Fin 95) : Byte := BitVec.ofNat 8 (0x20 + i.val)

/-- `TableRead(NAV_TABLE, n)` (20_memory.md R52). -/
def readNav (c : Config) (n : Fin 14) : Key := c.navTable[n]

/-- `TableRead(FN_MAP, n)` (20_memory.md R52). -/
def readFnMap (c : Config) (n : Fin 12) : Option ModIdx := c.fnMap[n]

/-- `TableRead(CHAR_TABLE, 0x20 + i)` (20_memory.md R52). -/
def readChar (c : Config) (i : Fin 95) : Option CharEntry := c.charTable[i]

/-- `fd_st` as its 2 bits: AS0 = 0, AS1 = 1, RX = 2 (10_state.md R21); 3 does not occur. -/
def FdState.code : FdState → BitVec 2
  | .as0 => 0
  | .as1 => 1
  | .rx => 2

/-- A command as the 10 bits of `cmd`, `op` above `key` (30_encoding.md R80). -/
def Cmd.encode : Cmd → BitVec 10
  | .press k => (0b00#2 ++ k)
  | .release k => (0b01#2 ++ k)
  | .releaseAll => (0b10#2 ++ 0x00#8)
  | .layout c => (0b11#2 ++ c)

/-- A diagnostic as the 10 bits of `diag`, `code` above `info` (30_encoding.md R82). -/
def Diag.encode : Diag → BitVec 10
  | .none => (0b00#2 ++ 0x00#8)
  | .startTimeout => (0b01#2 ++ 0x00#8)
  | .frameTimeout n => (0b10#2 ++ n)
  | .unknown b => (0b11#2 ++ b)

end Sys2Proof.Machine
end

