-- ==== Sys2Proof/Machine/Ops.lean ====
section
/-! DEFINITION. The shared operations: elapsed time (spec/00_scope.md R8), the outputs (R80, R82, R83), the return to
idle that every recovery takes (42_frame_decoder.md R140, 60_exceptions.md R246: the block has no exception to take
and none to return from), the reset cycle (70_reset_and_hazards.md R270), the decoder's reset-request and timeout
phases (42_frame_decoder.md R141 to R144), and the sampling of the input ports (30_encoding.md R70). -/

namespace Sys2Proof.Machine

/-- `elapsed(now, t0) = (now - t0) mod 2^W` (00_scope.md R8). -/
def elapsed (w : Nat) (now t0 : Nat) : Nat := (now + (2 ^ w - t0 % 2 ^ w)) % 2 ^ w

/-- A timeout of length `t` from `t0` "has expired when `elapsed(now, t0) > T`" (00_scope.md R8). -/
def expired (w : Nat) (now t0 : Nat) (t : Nat) : Bool := t < elapsed w now t0

/-- The outputs of two cycles of one step, in order (40_cycle.md R102). At most one of the two holds a diagnostic and
at most one a byte (R104), so the first that holds one is taken (log entry 4). -/
def Outputs.append (a b : Outputs) : Outputs :=
  { cmds := a.cmds ++ b.cmds
    diag := if a.diag = .none then b.diag else a.diag
    byteV := a.byteV || b.byteV
    byteO := if a.byteV then a.byteO else b.byteO }

/-- `cmds <- [] ; diag <- DG_NONE ; byte_v <- 0 ; byte_o <- 0x00` (40_cycle.md R103). -/
def State.clearOut (s : State) : State := { s with out := Outputs.empty }

/-- `emit_cmd`: appends to the cycle's command list (00_scope.md §4). -/
def State.emitCmd (c : Cmd) (s : State) : State := { s with out := { s.out with cmds := s.out.cmds ++ [c] } }

/-- `emit_diag`: sets the cycle's diagnostic (00_scope.md §4). -/
def State.emitDiag (d : Diag) (s : State) : State := { s with out := { s.out with diag := d } }

/-- `emit_byte`: sets the cycle's byte observation (00_scope.md §4, 30_encoding.md R83). -/
def State.emitByte (b : Byte) (s : State) : State := { s with out := { s.out with byteV := true, byteO := b } }

/-- A tap: "press of a key followed by release of the same key" (00_scope.md §5). -/
def State.tap (key : Key) (s : State) : State := (s.emitCmd (.press key)).emitCmd (.release key)

/-- A wrapped tap: "a modifier press before and release after a tap" (00_scope.md §5). -/
def State.wrapTap (m : ModIdx) (key : Key) (s : State) : State :=
  ((s.emitCmd (.press (modKey m))).tap key).emitCmd (.release (modKey m))

/-- `IDLE_ST` (42_frame_decoder.md R140). -/
def idleSt (c : Config) : FdState := if c.startEn then .as0 else .rx

/-- "Resets to idle": `fd_st <- IDLE_ST ; fd_cnt <- 0 ; fd_buf <- 0` (42_frame_decoder.md R140). -/
def State.goIdle (s : State) : State := { s with fdSt := idleSt s.cfg, fdCnt := 0, fdBuf := 0 }

/-- The decoder is in its idle state (42_frame_decoder.md R140). -/
def State.isIdle (s : State) : Bool := s.fdSt = idleSt s.cfg && s.fdCnt = 0 && s.fdBuf = 0

/-- `reset_state()` (70_reset_and_hazards.md R270): every field of 10_state.md R20 at its reset value, and no output.
The parameters, the sampled ports and the host's inputs are not the block's state and stay. -/
def State.resetState (s : State) : State :=
  { s with
    fdSt := idleSt s.cfg, fdCnt := 0, fdBuf := 0, fdTref := 0, fdRstreq := false, latch := 0x00, fn := false,
    ls0 := LineState.reset, ls1 := LineState.reset, out := Outputs.empty }

/-- `fd_reset_phase()` (42_frame_decoder.md R141). -/
def State.fdResetPhase (s : State) : State := if s.fdRstreq then { s.goIdle with fdRstreq := false } else s

/-- `fd_timeout_phase(now)`: the start-symbol timeout (42_frame_decoder.md R142), the inactivity timeout of the
start-symbol variant (R143), that of the other variant (R144). At most one applies (60_exceptions.md R245). -/
def State.fdTimeoutPhase (s : State) : State :=
  if s.fdSt = .as1 ∧ expired s.cfg.w s.port.now s.fdTref s.cfg.tStart then
    { s with fdSt := .as0 }.emitDiag .startTimeout
  else if s.cfg.startEn ∧ s.fdSt = .rx ∧ expired s.cfg.w s.port.now s.fdTref s.cfg.tIdle then
    (s.emitDiag (.frameTimeout (s.fdCnt.setWidth 8))).goIdle
  else if s.cfg.startEn = false ∧ s.fdCnt ≠ 0 ∧ expired s.cfg.w s.port.now s.fdTref s.cfg.tIdle then
    { s.emitDiag (.frameTimeout (s.fdCnt.setWidth 8)) with fdCnt := 0, fdBuf := 0 }
  else s

/-- The input of the next step: the oldest one the host has committed to, or free values (log entries 2 and 3). -/
def State.nextInput (s : State) : Input :=
  match s.inputs with
  | [] =>
    { rst := Config.freeRst s.cycles, now := Config.freeNow s.cycles, ev := Config.freeEv s.cycles,
      raw := Config.freeRaw s.cycles }
  | i :: _ => i

/-- Sampling the input ports, once per step (30_encoding.md R70); `now` is `W` bits wide (R72). -/
def State.sample (s : State) : State :=
  { s with
    port := { s.nextInput with now := s.nextInput.now % 2 ^ s.cfg.w }
    inputs := s.inputs.tail
    cycles := s.cycles + 1 }

end Sys2Proof.Machine
end

