-- ==== Sys2Proof/Machine/Sampler.lean ====
section
/-! DEFINITION. The Line Sampler, a debounce state machine per line (spec/41_line_sampler.md R120), used in RAW mode
only. -/

namespace Sys2Proof.Machine

/-- The body of `ls_sample`'s loop for one line (41_line_sampler.md R120): the line's next state, and whether this
sample is an edge event, an accepted fall. `level` is `raw[l]`. -/
def LineState.sample (c : Config) (now : Nat) (level : Bool) (l : LineState) : LineState × Bool :=
  if level ≠ l.raw then ({ l with raw := level, tchg := now }, false)
  else if level ≠ l.db ∧ c.tDb ≤ elapsed c.w now l.tchg then ({ l with db := level }, !level)
  else (l, false)

/-- Line ZERO at this sample: `raw[0]` (30_encoding.md R73). -/
def State.sampleZero (s : State) : LineState × Bool := s.ls0.sample s.cfg s.port.now (s.port.raw.getLsbD 0)

/-- Line ONE at this sample: `raw[1]` (30_encoding.md R73). -/
def State.sampleOne (s : State) : LineState × Bool := s.ls1.sample s.cfg s.port.now (s.port.raw.getLsbD 1)

/-- `ls_sample(now, raw)`'s state writes (R120). -/
def State.lsWrite (s : State) : State := { s with ls0 := s.sampleZero.1, ls1 := s.sampleOne.1 }

/-- `ls_sample(now, raw)`'s events, ZERO first (R120, R123). -/
def State.lsEvents (s : State) : List Instr :=
  (if s.sampleZero.2 then [Instr.evZero] else []) ++ (if s.sampleOne.2 then [Instr.evOne] else [])

end Sys2Proof.Machine
end

