-- ==== Sys2Proof/Machine/Cycle.lean ====
section
/-! DEFINITION. The cycle and the two interface modes (spec/40_cycle.md R100 to R103), over a function `run` that
gives an instruction its meaning; Machine/Step.lean sets it to `exec`. -/

namespace Sys2Proof.Machine

/-- The phases of a cycle before its event (40_cycle.md R103): the outputs are cleared, the reset request is honoured,
the timeouts are tested. -/
def State.prepare (s : State) : State := s.clearOut.fdResetPhase.fdTimeoutPhase

/-- One cycle with the decoded event `i` (40_cycle.md R103): with `rst = 1` the reset and nothing else
(70_reset_and_hazards.md R270), otherwise the phases and then the event. -/
def cycleWith (run : Instr → State → Result) (i : Instr) (s : State) : Result :=
  if s.port.rst then .next s.resetState else run i s.prepare

/-- Cycles in list order, each a full cycle, with their outputs joined in order (40_cycle.md R102); `acc` is what the
cycles before gave. -/
def cyclesWith (run : Instr → State → Result) : List Instr → Outputs → State → Result
  | [], acc, s => .next { s with out := acc }
  | i :: is, acc, s =>
    match cycleWith run i s with
    | .next t => cyclesWith run is (acc.append t.out) t
    | .fault f => .fault f
    | .refused r => .refused r

/-- The cycles a RAW sample asks for (40_cycle.md R102): one `EV_NONE` cycle when no edge was accepted, otherwise one
per edge. -/
def rawCycles (evs : List Instr) : List Instr := if evs = [] then [Instr.evNone] else evs

/-- `raw_step(now, raw)` (40_cycle.md R102). -/
def rawStepWith (run : Instr → State → Result) (s : State) : Result :=
  cyclesWith run (rawCycles s.lsEvents) Outputs.empty s.lsWrite

/-- One step: the ports are sampled (30_encoding.md R70), then one cycle in EDGE mode, `raw_step` in RAW mode
(40_cycle.md R100). A configuration that breaks 00_scope.md R7 is refused (log entry 6). -/
def stepWith (run : Instr → State → Result) (s : State) : Result :=
  if s.cfg.valid then
    match s.cfg.ifMode with
    | .edge => cycleWith run (decodeEvent s.sample.port.ev) s.sample
    | .raw => rawStepWith run s.sample
  else .refused .illegalConfig

/-- A state whose next step runs the event `ev` (EDGE mode, at the time last sampled): the event is the first input
(log entry 11). -/
def State.withEvent (s : State) (ev : BitVec 2) : State :=
  { s with
    cfg := { s.cfg with ifMode := .edge }
    inputs := { rst := false, now := s.port.now, ev := ev, raw := 0b11 } :: s.inputs }

/-- A state whose next step completes a frame of the byte `b` and so dispatches it: seven bits of `b` are in the
buffer, no reset request is pending, and the event of its last bit is the first input (log entry 11). -/
def State.withByte (s : State) (b : Byte) : State :=
  { s with
      fdSt := .rx, fdCnt := 7, fdBuf := b.extractLsb' 1 7, fdTref := s.port.now % 2 ^ s.cfg.w,
      fdRstreq := false }.withEvent (0b1#1 ++ b.extractLsb' 0 1)

end Sys2Proof.Machine
end

