-- ==== Sys2Proof/Machine/Control.lean ====
section
/-! DEFINITION. The protocol bytes that change dispatcher state (spec/43_dispatch_control.md): the layer bytes, the
emergency clear and the modifier bytes. -/

namespace Sys2Proof.Machine

/-- The `UNK` effect of a byte (44_dispatch_keys.md R210): `emit_diag(DG_UNKNOWN, b)`, nothing else. -/
def State.unknownByte (b : Byte) (s : State) : State := s.emitDiag (.unknown b)

/-- `FNON`, 0xB1 (43_dispatch_control.md R171): `fn <- 1`; "When `FN_EN = 0` the byte is `UNK`" (log entry 10). -/
def execFnon (s : State) : Result := .next (if s.cfg.fnEn then s.setFn true else s.unknownByte 0xB1)

/-- `FNOFF`, 0xB2 (R172): `fn <- 0`; "When `FN_EN = 0` the byte is `UNK`" (log entry 10). -/
def execFnoff (s : State) : Result := .next (if s.cfg.fnEn then s.setFn false else s.unknownByte 0xB2)

/-- `ECLR`, 0x9E (R173): `release_all()`, all latch bits cleared, the decoder's reset requested; `fn` stays. -/
def execEclr (s : State) : Result := .next ((s.emitCmd .releaseAll).setLatch 0x00).requestReset

/-- `MODP`, 0x80 to 0x87: in the press and release discipline R174 (press and latch, whatever the latch holds), in the
toggle discipline R175 (press if released, release if held). -/
def execModp (k : ModIdx) (s : State) : Result :=
  match s.cfg.modMode with
  | .pressRelease => .next ((s.emitCmd (.press (modKey k))).setLatch (latchSet s.latch k))
  | .toggle =>
    if latchBit s.latch k then .next ((s.emitCmd (.release (modKey k))).setLatch (latchClear s.latch k))
    else .next ((s.emitCmd (.press (modKey k))).setLatch (latchSet s.latch k))

/-- `MODR`, 0x88 to 0x8F (R176): release and unlatch; "0x88–0x8F are `UNK` when `MOD_MODE = TOGGLE`"
(30_encoding.md R79; log entry 10). -/
def execModr (k : ModIdx) (s : State) : Result :=
  match s.cfg.modMode with
  | .pressRelease => .next ((s.emitCmd (.release (modKey k))).setLatch (latchClear s.latch k))
  | .toggle => .next (s.unknownByte (0x88 + BitVec.ofNat 8 k.val))

end Sys2Proof.Machine
end

