-- ==== Sys2Proof/Machine/Keys.lean ====
section
/-! DEFINITION. The protocol bytes that only emit key taps, and the unknown byte (spec/44_dispatch_keys.md). None of
them writes `latch`, `fn` or `fd_rstreq`; only `FKEY` reads `fn`. -/

namespace Sys2Proof.Machine

/-- `NAV`, 0x90 to 0x9D (44_dispatch_keys.md R200): a tap of `NAV_TABLE[n]`. -/
def execNav (n : Fin 14) (s : State) : Result := .next (s.tap (readNav s.cfg n))

/-- The layer modifier of a function key, when its byte is layered (R203): `FN_EN = 1`, `fn = 1` and `FN_MAP[n]` is a
modifier. Otherwise the byte is not layered (R202). -/
def layerMod (n : Fin 12) (s : State) : Option ModIdx := if s.cfg.fnEn && s.fn then readFnMap s.cfg n else none

/-- `FKEY`, 0xA0 to 0xAB: a tap of F(n+1) (R202), wrapped in the layer modifier when layered (R203). -/
def execFkey (n : Fin 12) (s : State) : Result :=
  match layerMod n s with
  | none => .next (s.tap (fkeyKey n))
  | some m => .next (s.wrapTap m (fkeyKey n))

/-- `CAPS`, 0xB0 (R205): a tap of caps lock. -/
def execCaps (s : State) : Result := .next (s.tap keyCaps)

/-- `CTRLCHR`, 0x01 to 0x1A (R206): a tap of the letter, wrapped in L-Ctrl. -/
def execCtrlchr (j : Fin 26) (s : State) : Result := .next (s.wrapTap lCtrl (letterKey j))

/-- `PRINT`, 0x20 to 0x7E: a character in the table is tapped, wrapped in L-Shift when it needs shift (R207); an
absent one is requested from the text layout service (R208). -/
def execPrint (i : Fin 95) (s : State) : Result :=
  match readChar s.cfg i with
  | none => .next (s.emitCmd (.layout (charCode i)))
  | some e => .next (if e.shift then s.wrapTap lShift e.key else s.tap e.key)

/-- `UNK` (R210): the diagnostic `DG_UNKNOWN` with the byte, no command and no state change. -/
def execUnk (u : Byte) (s : State) : Result := .next (s.unknownByte u)

end Sys2Proof.Machine
end

