-- ==== Sys2Proof/Machine/ByteDispatch.lean ====
section
/-! DEFINITION. `dispatch(b)`, the Action Dispatcher function (spec/43_dispatch_control.md R170). -/

namespace Sys2Proof.Machine

/-- `dispatch(b)` (43_dispatch_control.md R170): the rule of the byte's class, with the operand of 30_encoding.md R84.
Laws/Dispatch.lean proves it to be `exec` of the byte's instruction. -/
def dispatch (b : Byte) (s : State) : Result :=
  match classOf s.cfg b with
  | .fnon => execFnon s
  | .fnoff => execFnoff s
  | .eclr => execEclr s
  | .modp => execModp (operandK b) s
  | .modr => execModr (operandK b) s
  | .nav => execNav (operandNav b) s
  | .fkey => execFkey (operandFkey b) s
  | .caps => execCaps s
  | .ctrlchr => execCtrlchr (operandJ b) s
  | .print => execPrint (operandC b) s
  | .unk => execUnk b s

end Sys2Proof.Machine
end

