-- ==== Sys2Proof/Machine/Events.lean ====
section
/-! DEFINITION. The events: the Frame Decoder's event phase (spec/42_frame_decoder.md R145 to R152). The reset-request
and timeout phases of the cycle come before it and are in Machine/Ops.lean and Machine/Cycle.lean. -/

namespace Sys2Proof.Machine

/-- Entering AS1, the first edge of a start symbol or its restart (42_frame_decoder.md R145, R147):
`fd_st <- AS1 ; fd_tref <- now`. -/
def State.enterAs1 (s : State) : State := { s with fdSt := .as1, fdTref := s.port.now }

/-- The start symbol is complete (R148): `fd_st <- RX ; fd_cnt <- 0 ; fd_buf <- 0 ; fd_tref <- now`. -/
def State.enterRx (s : State) : State := { s with fdSt := .rx, fdCnt := 0, fdBuf := 0, fdTref := s.port.now }

/-- A data bit, buffer not full (R150): `fd_buf <- fd_buf * 2 + s ; fd_cnt <- fd_cnt + 1 ; fd_tref <- now`. -/
def State.pushBit (sym : BitVec 1) (s : State) : State :=
  { s with fdBuf := s.fdBuf * 2 + sym.setWidth 7, fdCnt := s.fdCnt + 1, fdTref := s.port.now }

/-- The byte that a data bit completes (R151): `b <- fd_buf * 2 + s`, so the first bit received is `b[7]`. -/
def State.frameByte (sym : BitVec 1) (s : State) : Byte := s.fdBuf.setWidth 8 * 2 + sym.setWidth 8

/-- The decoder's part of a completed frame (R151): idle, `fd_tref <- now`, `emit_byte(b)`. -/
def State.endFrame (sym : BitVec 1) (s : State) : State :=
  ({ s with fdTref := s.port.now }.goIdle).emitByte (s.frameByte sym)

/-- An edge in RX is the data bit `sym` (R149): R150 when `fd_cnt < 7`, R151 when `fd_cnt = 7`, which dispatches the
byte in the same cycle. -/
def dataBit (sym : BitVec 1) (s : State) : Result :=
  if s.fdCnt = 7 then dispatch (s.frameByte sym) (s.endFrame sym) else .next (s.pushBit sym)

/-- `EV_NONE` (R152): nothing. -/
def execEvNone (s : State) : Result := .next s

/-- `EV_ZERO`: R145 in AS0, R147 in AS1, the data bit 0 in RX (R149 to R151). -/
def execEvZero (s : State) : Result :=
  match s.fdSt with
  | .as0 => .next s.enterAs1
  | .as1 => .next s.enterAs1
  | .rx => dataBit 0 s

/-- `EV_ONE`: ignored in AS0 (R146), R148 in AS1, the data bit 1 in RX (R149 to R151). -/
def execEvOne (s : State) : Result :=
  match s.fdSt with
  | .as0 => .next s
  | .as1 => .next s.enterRx
  | .rx => dataBit 1 s

/-- `ev = 01` (30_encoding.md R79): "the host must never present it, and a model refuses a cycle that presents it". -/
def execEvReserved (_ : State) : Result := .refused .reservedEvent

end Sys2Proof.Machine
end

