-- ==== Sys2Proof/Machine/Dispatch.lean ====
section
/-! DEFINITION. What every instruction does: one arm per constructor of Instr, each one call of its meaning. -/

namespace Sys2Proof.Machine

/-- The meaning of an instruction: the events (spec/42_frame_decoder.md) and the protocol bytes
(43_dispatch_control.md, 44_dispatch_keys.md). -/
def exec (i : Instr) (s : State) : Host.Outcome State Fault Refusal :=
  match i with
  | .evNone => Sys2Proof.Machine.execEvNone s
  | .evZero => Sys2Proof.Machine.execEvZero s
  | .evOne => Sys2Proof.Machine.execEvOne s
  | .evReserved => Sys2Proof.Machine.execEvReserved s
  | .ctrlchr j => Sys2Proof.Machine.execCtrlchr j s
  | .print c => Sys2Proof.Machine.execPrint c s
  | .modp k => Sys2Proof.Machine.execModp k s
  | .modr k => Sys2Proof.Machine.execModr k s
  | .nav n => Sys2Proof.Machine.execNav n s
  | .eclr => Sys2Proof.Machine.execEclr s
  | .fkey n => Sys2Proof.Machine.execFkey n s
  | .caps => Sys2Proof.Machine.execCaps s
  | .fnon => Sys2Proof.Machine.execFnon s
  | .fnoff => Sys2Proof.Machine.execFnoff s
  | .unk u => Sys2Proof.Machine.execUnk u s

end Sys2Proof.Machine
end

