-- ==== Sys2Proof/Machine/Step.lean ====
section
/-! DEFINITION. One step of the block, and the placing of an instruction where the next step runs it. -/

namespace Sys2Proof.Machine

/-- One step (spec/40_cycle.md R101, R102), the instructions meaning what `exec` says. -/
def step (s : State) : Host.Outcome State Fault Refusal := stepWith exec s

/-- `s` with the instruction of the opcode table's word placed so that the very next step runs it (log entry 11): an
event is presented at the input; a protocol byte stands in the decoder but for its last bit, which is presented. -/
def State.withFetchWord (s : State) (nbits w : Nat) : State :=
  match tableWord nbits w with
  | some (.event ev) => s.withEvent ev
  | some (.pbyte b) => s.withByte b
  | none => s

end Sys2Proof.Machine
end

