-- ==== Sys2Proof/Machine/EdgeProgram.lean ====
section
/-! DEFINITION. The edge programs of the spec as lists of inputs (spec/30_encoding.md R85, R86): what a host commits to
in `State.inputs`. -/

namespace Sys2Proof.Machine

/-- `Z @ t` (30_encoding.md R85). -/
def Input.zero (t : Nat) : Input := { rst := false, now := t, ev := 0b10, raw := 0b11 }

/-- `O @ t` (R85). -/
def Input.one (t : Nat) : Input := { rst := false, now := t, ev := 0b11, raw := 0b11 }

/-- `T @ t` (R85). -/
def Input.tick (t : Nat) : Input := { rst := false, now := t, ev := 0b00, raw := 0b11 }

/-- `S r0 r1 @ t` (R85), RAW mode: `raw[0] = r0`, `raw[1] = r1`. -/
def Input.sample (r0 r1 : Bool) (t : Nat) : Input :=
  { rst := false, now := t, ev := 0b00, raw := BitVec.ofBool r1 ++ BitVec.ofBool r0 }

/-- A cycle with `rst = 1`. -/
def Input.reset (t : Nat) : Input := { rst := true, now := t, ev := 0b00, raw := 0b11 }

/-- The edge of the data bit `sym`: ZERO for 0, ONE for 1 (30_encoding.md R74). -/
def Input.dataEdge (sym : Bool) (t : Nat) : Input := if sym then Input.one t else Input.zero t

/-- `START @ t, d` (R86). -/
def startEdges (t d : Nat) : List Input := [Input.zero t, Input.one (t + d)]

/-- `BITS v/n @ t, d` (R86): bit `n-1` of `v` at `t`, then each lower bit `d` later. -/
def bitEdges (v : Nat) : Nat → Nat → Nat → List Input
  | 0, _, _ => []
  | n + 1, t, d => Input.dataEdge (v.testBit n) t :: bitEdges v n (t + d) d

/-- `FRAME b @ t, d` (R86). -/
def frameEdges (c : Config) (b : Byte) (t d : Nat) : List Input :=
  if c.startEn then startEdges t d ++ bitEdges b.toNat 8 (t + 2 * d) d else bitEdges b.toNat 8 t d

end Sys2Proof.Machine
end

