-- ==== Sys2Proof/Safety.lean ====
section
/-! DEFINITION. The invariant of the block (spec/10_state.md R35 and the widths of R20), and the premises that the
spec puts on the host (70_reset_and_hazards.md R273), in the terms that claims use. -/

namespace Sys2Proof.Machine

/-- 10_state.md R35, the decoder's part: an empty buffer outside RX, `fd_buf < 2^fd_cnt` (R23), and only RX when
`START_EN = 0`. -/
abbrev State.fdInv (s : State) : Prop :=
  (s.fdSt ≠ .rx → s.fdCnt = 0 ∧ s.fdBuf = 0) ∧ s.fdBuf.toNat < 2 ^ s.fdCnt.toNat
    ∧ (s.cfg.startEn = false → s.fdSt = .rx)

/-- 10_state.md R35, the dispatcher's part: no layer without `FN_EN`; a pending reset request means that this step
dispatched 0x9E and that the decoder is idle. -/
abbrev State.adInv (s : State) : Prop :=
  (s.cfg.fnEn = false → s.fn = false)
    ∧ (s.fdRstreq = true → s.isIdle = true ∧ s.out.byteV = true ∧ s.out.byteO = 0x9E)

/-- The sampler's part: in EDGE mode "the `ls_*` fields keep their reset values" (10_state.md R30). -/
abbrev State.lsInv (s : State) : Prop :=
  s.cfg.ifMode = .edge → s.ls0 = LineState.reset ∧ s.ls1 = LineState.reset

/-- Every timestamp is `W` bits wide (00_scope.md R8, 10_state.md R24, R30). -/
abbrev State.timeInv (s : State) : Prop :=
  s.fdTref < 2 ^ s.cfg.w ∧ s.ls0.tchg < 2 ^ s.cfg.w ∧ s.ls1.tchg < 2 ^ s.cfg.w ∧ s.port.now < 2 ^ s.cfg.w

/-- The invariant of the block. -/
abbrev State.Inv (s : State) : Prop := s.fdInv ∧ s.adInv ∧ s.lsInv ∧ s.timeInv

/-- A line's sampler fed a list of samples (41_line_sampler.md R120): the state after them, and for each sample whether
it was an edge event. -/
def LineState.samples (c : Config) (l : LineState) : List (Nat × Bool) → LineState × List Bool
  | [] => (l, [])
  | (now, level) :: rest =>
    let one := l.sample c now level
    let more := one.1.samples c rest
    (more.1, one.2 :: more.2)

/-- In EDGE mode, under a valid configuration, the next step samples the event `ev` and no reset
(00_scope.md R7, 30_encoding.md R71, R79, 70_reset_and_hazards.md R270). -/
abbrev State.presents (s : State) (ev : BitVec 2) : Prop :=
  s.cfg.valid = true ∧ s.cfg.ifMode = .edge ∧ s.sample.port.rst = false ∧ s.sample.port.ev = ev

/-- The sampled time is `d` ticks after the reference time, `d` within the timestamps' range
(70_reset_and_hazards.md R273: "every reference time is read at real elapsed `< 2^W`"). -/
abbrev State.since (s : State) (d : Nat) : Prop :=
  d < 2 ^ s.cfg.w ∧ s.sample.port.now = (s.fdTref + d) % 2 ^ s.cfg.w

end Sys2Proof.Machine
end

