-- ==== Sys2Proof/Certificates/Slice0/Obligations.lean ====
section
/-! DEFINITION. The statements for the provers. Each docstring names the rules of spec/ it formalises, and, where a
clause rests on a decision or an inference that the spec marks as its own, or on a choice of the model, says which. -/

open Sys2Proof
open Sys2Proof.Machine

/-! ## Reset -/

/-- The reset values of 70_reset_and_hazards.md R270 (the spec's own decision D24) and every default parameter of
00_scope.md R6: the numbers and flags, `FN_MAP` (44_dispatch_keys.md R204, decision D15), `NAV_TABLE` (R201, D16) and
all 95 entries of `CHAR_TABLE` (R209, D17; these usages are marked by the spec as general knowledge). That `State.reset`
has the default parameters is the model's choice (log entry 8). -/
def Obligations.ResetStateHoldsTheResetValues : Prop :=
  let c := State.reset.cfg
  let char (b : Byte) : Option CharEntry := c.charTable[operandC b]
  (State.reset.fdSt = .as0 ∧ State.reset.fdCnt = 0 ∧ State.reset.fdBuf = 0 ∧ State.reset.fdTref = 0
    ∧ State.reset.fdRstreq = false ∧ State.reset.latch = 0x00 ∧ State.reset.fn = false
    ∧ State.reset.ls0 = { db := true, raw := true, tchg := 0 }
    ∧ State.reset.ls1 = { db := true, raw := true, tchg := 0 })
    ∧ (c.w = 32 ∧ c.tickNs = 1000 ∧ c.startEn = true ∧ c.tStart = 50000 ∧ c.tIdle = 2000000
      ∧ c.modMode = .pressRelease ∧ c.fnEn = true ∧ c.ifMode = .edge ∧ c.tDb = 10000 ∧ c.valid = true)
    ∧ (∀ n : Fin 12, c.fnMap[n] = some 0)
    ∧ c.navTable.toList
        = [0x52, 0x51, 0x50, 0x4F, 0x2A, 0x28, 0x2B, 0x29, 0x4C, 0x49, 0x4A, 0x4D, 0x4B, 0x4E]
    ∧ (∀ j : Fin 26, char (BitVec.ofNat 8 (0x41 + j.val)) = some ⟨BitVec.ofNat 8 (0x04 + j.val), true⟩
      ∧ char (BitVec.ofNat 8 (0x61 + j.val)) = some ⟨BitVec.ofNat 8 (0x04 + j.val), false⟩)
    ∧ (∀ d : Fin 9, char (BitVec.ofNat 8 (0x31 + d.val)) = some ⟨BitVec.ofNat 8 (0x1E + d.val), false⟩)
    ∧ (∀ p ∈ [((0x20, 0x2C) : Byte × Key), (0x27, 0x34), (0x2C, 0x36), (0x2D, 0x2D), (0x2E, 0x37), (0x2F, 0x38),
        (0x30, 0x27), (0x3B, 0x33), (0x3D, 0x2E), (0x5B, 0x2F), (0x5C, 0x31), (0x5D, 0x30), (0x60, 0x35)],
      char p.1 = some ⟨p.2, false⟩)
    ∧ ∀ p ∈ [((0x21, 0x1E) : Byte × Key), (0x22, 0x34), (0x23, 0x20), (0x24, 0x21), (0x25, 0x22), (0x26, 0x24),
        (0x28, 0x26), (0x29, 0x27), (0x2A, 0x25), (0x2B, 0x2E), (0x3A, 0x33), (0x3C, 0x36), (0x3E, 0x37), (0x3F, 0x38),
        (0x40, 0x1F), (0x5E, 0x23), (0x5F, 0x2D), (0x7B, 0x2F), (0x7C, 0x31), (0x7D, 0x30), (0x7E, 0x35)],
      char p.1 = some ⟨p.2, true⟩

/-- 70_reset_and_hazards.md R270 and R271: a cycle with `rst = 1` puts every field at its reset value in either
interface mode, whatever `ev` and `raw` are and whatever is latched or half received, and emits nothing (the spec's own
decision D24). The model's own readings: the host's inputs and the parameters are not the block's state (log entries 1
and 2), a reset step answers a next state also when it presents `ev = 01` (log entry 7, DEDUCED), and in RAW mode the
sampler's fields end at their reset values although the sampler ran (log entry 18, DEDUCED). -/
def Obligations.ResetCycleResetsEverythingInSilence : Prop :=
  ∀ s : State, s.cfg.valid = true → s.sample.port.rst = true →
    ∃ t, step s = .next t
      ∧ t.fdSt = (if s.cfg.startEn then .as0 else .rx) ∧ t.fdCnt = 0 ∧ t.fdBuf = 0 ∧ t.fdTref = 0
      ∧ t.fdRstreq = false ∧ t.latch = 0x00 ∧ t.fn = false
      ∧ t.ls0 = { db := true, raw := true, tchg := 0 } ∧ t.ls1 = { db := true, raw := true, tchg := 0 }
      ∧ t.out = { cmds := [], diag := .none, byteV := false, byteO := 0x00 }
      ∧ t.cfg = s.cfg ∧ t.inputs = s.inputs.tail

/-! ## Encoding -/

/-- Words of every class written out from 30_encoding.md R71 and R77, under the default parameters. -/
def Obligations.WrittenWordsDecodeToTheirInstructions : Prop :=
  decodeEvent 0b00 = .evNone ∧ decodeEvent 0b10 = .evZero ∧ decodeEvent 0b11 = .evOne
    ∧ decodeEvent 0b01 = .evReserved
    ∧ decodePByte Config.default 0b00000011 = .ctrlchr 2 ∧ decodePByte Config.default 0b01010101 = .print 53
    ∧ decodePByte Config.default 0b10000001 = .modp 1 ∧ decodePByte Config.default 0b10001111 = .modr 7
    ∧ decodePByte Config.default 0b10010100 = .nav 4 ∧ decodePByte Config.default 0b10011110 = .eclr
    ∧ decodePByte Config.default 0b10100100 = .fkey 4 ∧ decodePByte Config.default 0b10110000 = .caps
    ∧ decodePByte Config.default 0b10110001 = .fnon ∧ decodePByte Config.default 0b10110010 = .fnoff
    ∧ decodePByte Config.default 0b11000011 = .unk 0xC3

/-- Decoding and encoding agree in both directions, for every instruction and every word of both formats, under every
configuration (30_encoding.md R71, R77, R78, R84): no bit of an encoding is dropped, and `class` is total. -/
def Obligations.EveryWordAndInstructionRoundTrips : Prop :=
  (∀ (c : Config) (i : Instr), i.wf c = true → decode c (encode i) = i)
    ∧ ∀ (c : Config) (w : InstrWord), (decode c w).wf c = true ∧ encode (decode c w) = w

/-- 30_encoding.md R84: the operand of every class of byte, read back from the instruction the byte decodes to: the
letter and the character by their distance from the range's first byte, the modifier index from the low three bits, the
key numbers from the low four, with the high bits the rule fixes; an unknown byte carries itself. -/
def Obligations.OperandsAreTheByteFields : Prop :=
  ∀ (c : Config) (b : Byte), match decodePByte c b with
    | .ctrlchr j => j.val + 0x01 = b.toNat
    | .print i => charCode i = b ∧ i.val + 0x20 = b.toNat
    | .modp k => k.val = (b.extractLsb' 0 3).toNat ∧ b.extractLsb' 3 5 = 0b10000
    | .modr k => k.val = (b.extractLsb' 0 3).toNat ∧ b.extractLsb' 3 5 = 0b10001
    | .nav n => n.val = (b.extractLsb' 0 4).toNat ∧ b.extractLsb' 4 4 = 0x9
    | .fkey n => n.val = (b.extractLsb' 0 4).toNat ∧ b.extractLsb' 4 4 = 0xA
    | .eclr => classOf c b = .eclr
    | .caps => classOf c b = .caps
    | .fnon => classOf c b = .fnon
    | .fnoff => classOf c b = .fnoff
    | .unk u => u = b
    | .evNone | .evZero | .evOne | .evReserved => False

/-- 30_encoding.md R79: the bytes that decode to `UNK`, in every configuration and in the two special ones (decisions
D10 and D11 of the spec), and that under the default parameters there are 89 of them (R77). -/
def Obligations.UnknownBytesAreExactlyTheListedOnes : Prop :=
  (∀ (c : Config) (b : Byte), decodePByte c b = .unk b ↔
      b = 0x00 ∨ (0x1B ≤ b ∧ b ≤ 0x1F) ∨ b = 0x7F ∨ b = 0x9F ∨ (0xAC ≤ b ∧ b ≤ 0xAF) ∨ 0xB3 ≤ b
        ∨ (c.fnEn = false ∧ (b = 0xB1 ∨ b = 0xB2)) ∨ (c.modMode = .toggle ∧ 0x88 ≤ b ∧ b ≤ 0x8F))
    ∧ ((List.range 256).filter fun n =>
        decodePByte Config.default (BitVec.ofNat 8 n) = .unk (BitVec.ofNat 8 n)).length = 89

/-- 30_encoding.md R80 and R82: `op` and `code` are the two high bits of a command and of a diagnostic, `key` and
`info` the low eight, and no two commands and no two diagnostics share a word (the forms are the spec's own decisions
D18 to D20). -/
def Obligations.CommandsAndDiagnosticsHaveDistinctWords : Prop :=
  (∀ k : Key, (Cmd.press k).encode.toNat = k.toNat ∧ (Cmd.release k).encode.toNat = 0x100 + k.toNat
      ∧ (Cmd.layout k).encode.toNat = 0x300 + k.toNat)
    ∧ Cmd.releaseAll.encode.toNat = 0x200
    ∧ (∀ b : Byte, (Diag.frameTimeout b).encode.toNat = 0x200 + b.toNat
      ∧ (Diag.unknown b).encode.toNat = 0x300 + b.toNat)
    ∧ Diag.none.encode.toNat = 0 ∧ Diag.startTimeout.encode.toNat = 0x100
    ∧ (∀ a b : Cmd, a.encode = b.encode → a = b) ∧ (∀ a b : Diag, a.encode = b.encode → a = b)

/-! ## A step runs the decoded instruction -/

/-- EDGE mode (40_cycle.md R101, R103): when the cycle presents `ev` and no reset, the step samples the ports, runs the
phases before the event, and then is `exec` of the instruction `ev` decodes to. -/
def Obligations.StepRunsThePresentedEvent : Prop :=
  ∀ (s : State) (ev : BitVec 2), s.presents ev → step s = exec (decodeEvent ev) s.sample.prepare

/-- RAW mode (40_cycle.md R102, 41_line_sampler.md R123; the spec's own decisions D1 and D23): the sampler's state is
written first; no accepted edge runs one `EV_NONE` cycle, one runs one cycle, two run two full cycles with the same
`now`, ZERO first. The step's commands are those of the two cycles in order; that its diagnostic and its byte are those
of the first cycle that has one is the model's reading (log entry 4, DEDUCED from R104, DESIGN CHOICE in form), and
`StepOutputsAreBounded` says that at most one of the two cycles has either. -/
def Obligations.RawStepRunsTheSampledEvents : Prop :=
  ∀ s : State, s.cfg.valid = true → s.cfg.ifMode = .raw → s.sample.port.rst = false →
    (s.sample.sampleZero.2 = false → s.sample.sampleOne.2 = false →
      step s = exec .evNone s.sample.lsWrite.prepare)
    ∧ (s.sample.sampleZero.2 = true → s.sample.sampleOne.2 = false →
      step s = exec .evZero s.sample.lsWrite.prepare)
    ∧ (s.sample.sampleZero.2 = false → s.sample.sampleOne.2 = true →
      step s = exec .evOne s.sample.lsWrite.prepare)
    ∧ (s.sample.sampleZero.2 = true → s.sample.sampleOne.2 = true →
      ∃ t u, exec .evZero s.sample.lsWrite.prepare = .next t ∧ exec .evOne t.prepare = .next u
        ∧ t.port.now = u.port.now
        ∧ step s = .next { u with out :=
          { cmds := t.out.cmds ++ u.out.cmds
            diag := if t.out.diag = .none then u.out.diag else t.out.diag
            byteV := t.out.byteV || u.out.byteV
            byteO := if t.out.byteV then t.out.byteO else u.out.byteO } })

/-- The phases of a cycle before its event (42_frame_decoder.md R141 to R144, 40_cycle.md R103): the outputs start
empty, a reset request is honoured and cleared before the timeouts, then at most one timeout is taken, when the
elapsed time is strictly greater; nothing else is written. The no-start-symbol case is the spec's own decision D7, the
untouched latch and layer D26. -/
def Obligations.PhasesBeforeTheEvent : Prop :=
  ∀ s : State, s.fdInv →
    let e : State := { s with out := { cmds := [], diag := .none, byteV := false, byteO := 0x00 } }
    let passed := elapsed s.cfg.w s.port.now s.fdTref
    (s.fdRstreq = true →
      s.prepare = { e with fdSt := if s.cfg.startEn then .as0 else .rx, fdCnt := 0, fdBuf := 0, fdRstreq := false })
    ∧ (s.fdRstreq = false → s.fdSt = .as0 → s.prepare = e)
    ∧ (s.fdRstreq = false → s.fdSt = .as1 → passed ≤ s.cfg.tStart → s.prepare = e)
    ∧ (s.fdRstreq = false → s.fdSt = .as1 → s.cfg.tStart < passed →
      s.prepare = { e with fdSt := .as0, out := { e.out with diag := .startTimeout } })
    ∧ (s.fdRstreq = false → s.fdSt = .rx → passed ≤ s.cfg.tIdle → s.prepare = e)
    ∧ (s.fdRstreq = false → s.fdSt = .rx → s.cfg.startEn = false → s.fdCnt = 0 → s.prepare = e)
    ∧ (s.fdRstreq = false → s.fdSt = .rx → s.cfg.tIdle < passed → s.cfg.startEn = true ∨ s.fdCnt ≠ 0 →
      s.prepare = { e with
        fdSt := if s.cfg.startEn then .as0 else .rx, fdCnt := 0, fdBuf := 0,
        out := { e.out with diag := .frameTimeout (BitVec.ofNat 8 s.fdCnt.toNat) } })

/-- 42_frame_decoder.md R151 and 43_dispatch_control.md R170: the edge that completes a frame forms the byte
`fd_buf * 2 + s`, leaves the decoder idle, shows the byte, and the byte's own instruction runs from there in the same
cycle. (The idle state of the no-start-symbol variant is the spec's own decision D7.) -/
def Obligations.CompletedFrameRunsItsByte : Prop :=
  ∀ (s : State) (sym : BitVec 1), s.fdSt = .rx → s.fdCnt = 7 →
    ∃ (b : Byte) (i : Instr), b.toNat = 2 * s.fdBuf.toNat + sym.toNat ∧ i = decodePByte s.cfg b
      ∧ exec (if sym = 0 then .evZero else .evOne) s
          = exec i { s with
              fdSt := if s.cfg.startEn then .as0 else .rx, fdCnt := 0, fdBuf := 0, fdTref := s.port.now,
              out := { s.out with byteV := true, byteO := b } }

/-- A protocol byte that stands in the decoder but for its last bit runs in the very next step (the model's choice of
where a byte is placed, log entry 11): the step is `exec` of the byte's instruction, from a state with no command and
no diagnostic, the dispatcher's state untouched. -/
def Obligations.StagedByteRunsInTheNextStep : Prop :=
  ∀ (s : State) (b : Byte), ({ s.cfg with ifMode := .edge } : Config).valid = true →
    ∃ p : State, step (s.withByte b) = exec (decodePByte s.cfg b) p
      ∧ p.out = { cmds := [], diag := .none, byteV := true, byteO := b }
      ∧ p.latch = s.latch ∧ p.fn = s.fn ∧ p.fdRstreq = false ∧ p.isIdle = true
      ∧ p.cfg = { s.cfg with ifMode := .edge } ∧ p.inputs = s.inputs

/-! ## The events -/

/-- 42_frame_decoder.md R152: `EV_NONE` does nothing (decision D2 of the spec). -/
def Obligations.NoEventChangesNothing : Prop :=
  ∀ s : State, exec .evNone s = .next s

/-- 42_frame_decoder.md R145: "an edge on Line ZERO transitions to AwaitingStart1 and records the entry time." Nothing
else changes; a step gets there also from a state that a timeout of the same step left in AS0. -/
def Obligations.ZeroEdgeInAs0StartsTheWindow : Prop :=
  decodeEvent 0b10 = .evZero
    ∧ (∀ s : State, s.fdSt = .as0 → exec .evZero s = .next { s with fdSt := .as1, fdTref := s.port.now })
    ∧ ∀ s : State, s.presents 0b10 → s.sample.prepare.fdSt = .as0 →
      step s = .next { s.sample.prepare with fdSt := .as1, fdTref := s.sample.port.now }

/-- 42_frame_decoder.md R147: "An edge on Line ZERO restarts the window (re-enters AwaitingStart1, resets entry time)."
With the rule's corner case at the level of a step: a ZERO edge at the window's last tick restarts it in silence, one a
tick later times out first and ends in the same place (marked by the spec as its own inference). -/
def Obligations.ZeroEdgeInAs1RestartsTheWindow : Prop :=
  (∀ s : State, s.fdSt = .as1 → exec .evZero s = .next { s with fdSt := .as1, fdTref := s.port.now })
    ∧ ∀ (s : State) (d : Nat), s.presents 0b10 → s.since d → s.fdInv → s.fdSt = .as1 → s.fdRstreq = false →
      ∃ t, step s = .next t ∧ t.fdSt = .as1 ∧ t.fdTref = s.sample.port.now ∧ t.fdCnt = 0 ∧ t.fdBuf = 0
        ∧ t.out.cmds = [] ∧ t.out.byteV = false
        ∧ t.out.diag = (if s.cfg.tStart < d then .startTimeout else .none)

/-- 42_frame_decoder.md R146: "any edge on Line ONE is ignored" in AS0, and is no error, also where a timeout of the
same step left the decoder in AS0 (an edge one tick past the window). -/
def Obligations.OneEdgeInAs0IsIgnored : Prop :=
  decodeEvent 0b11 = .evOne
    ∧ (∀ s : State, s.fdSt = .as0 → exec .evOne s = .next s)
    ∧ ∀ s : State, s.presents 0b11 → s.sample.prepare.fdSt = .as0 → step s = .next s.sample.prepare

/-- 42_frame_decoder.md R148: the ONE edge in AS1 completes the start symbol with an empty buffer; the write of
`fd_tref` is the spec's own decision D6. -/
def Obligations.OneEdgeInAs1CompletesTheStartSymbol : Prop :=
  ∀ s : State, s.fdSt = .as1 →
    exec .evOne s = .next { s with fdSt := .rx, fdCnt := 0, fdBuf := 0, fdTref := s.port.now }

/-- The start-symbol window boundary (42_frame_decoder.md R142, R146, R148): at the window's last tick the ONE edge is
accepted, one tick past it the decoder returns to AS0 with the diagnostic and the edge is ignored. (The tick is the
spec's own decision D34, the written reference time D6.) -/
def Obligations.StartWindowClosesOneTickPastItsLimit : Prop :=
  ∀ (s : State) (d : Nat), s.presents 0b11 → s.since d → s.fdInv → s.fdSt = .as1 → s.fdRstreq = false →
    ∃ t, step s = .next t ∧ t.fdCnt = 0 ∧ t.fdBuf = 0 ∧ t.out.cmds = [] ∧ t.out.byteV = false
      ∧ (d ≤ s.cfg.tStart → t.fdSt = .rx ∧ t.fdTref = s.sample.port.now ∧ t.out.diag = .none)
      ∧ (s.cfg.tStart < d → t.fdSt = .as0 ∧ t.fdTref = s.fdTref ∧ t.out.diag = .startTimeout)

/-- 42_frame_decoder.md R150: a data bit with room in the buffer, for either symbol, from a buffer that holds
`fd_cnt` bits (10_state.md R23): `fd_buf * 2 + s`, one more bit, the inactivity clock reset, and nothing else; a bit
that comes within `T_IDLE` is accepted. -/
def Obligations.DataBitIsShiftedIn : Prop :=
  (∀ sym : BitVec 1, decodeEvent (0b1#1 ++ sym) = if sym = 0 then .evZero else .evOne)
    ∧ (∀ (s : State) (sym : BitVec 1), s.fdSt = .rx → s.fdCnt.toNat < 7 → s.fdBuf.toNat < 2 ^ s.fdCnt.toNat →
      ∃ (cnt : BitVec 3) (buf : BitVec 7), cnt.toNat = s.fdCnt.toNat + 1 ∧ buf.toNat = 2 * s.fdBuf.toNat + sym.toNat
        ∧ exec (if sym = 0 then .evZero else .evOne) s
            = .next { s with fdCnt := cnt, fdBuf := buf, fdTref := s.port.now })
    ∧ ∀ (s : State) (sym : BitVec 1) (d : Nat), s.presents (0b1#1 ++ sym) → s.since d → d ≤ s.cfg.tIdle →
      s.fdRstreq = false → s.fdSt = .rx → s.fdCnt.toNat < 7 → s.fdBuf.toNat < 2 ^ s.fdCnt.toNat →
      ∃ t, step s = .next t ∧ t.fdSt = .rx ∧ t.fdCnt.toNat = s.fdCnt.toNat + 1
        ∧ t.fdBuf.toNat = 2 * s.fdBuf.toNat + sym.toNat ∧ t.fdTref = s.sample.port.now ∧ t.fdRstreq = false
        ∧ t.latch = s.latch ∧ t.fn = s.fn
        ∧ t.out = { cmds := [], diag := .none, byteV := false, byteO := 0x00 }

/-- The inactivity boundary (42_frame_decoder.md R143, R144, R152): with no edge, a partial frame is kept while the
elapsed time is at most `T_IDLE`; one tick later it is discarded with the number of its bits as the diagnostic, the
decoder is idle, no byte or command is emitted, and latch and layer keep their values. (The no-start-symbol case is the
spec's own decision D7, the untouched latch and layer D26.) -/
def Obligations.IdleTimeoutDiscardsThePartialFrame : Prop :=
  ∀ (s : State) (d : Nat), s.presents 0b00 → s.since d → s.fdSt = .rx → s.fdRstreq = false →
    ∃ t, step s = .next t ∧ t.latch = s.latch ∧ t.fn = s.fn ∧ t.out.cmds = [] ∧ t.out.byteV = false
      ∧ t.fdTref = s.fdTref
      ∧ (d ≤ s.cfg.tIdle → t.fdSt = .rx ∧ t.fdCnt = s.fdCnt ∧ t.fdBuf = s.fdBuf ∧ t.out.diag = .none)
      ∧ (s.cfg.tIdle < d → s.cfg.startEn = true ∨ s.fdCnt ≠ 0 →
        t.isIdle = true ∧ t.out.diag = .frameTimeout (BitVec.ofNat 8 s.fdCnt.toNat))
      ∧ (s.cfg.tIdle < d → s.cfg.startEn = false → s.fdCnt = 0 →
        t.fdSt = .rx ∧ t.fdCnt = 0 ∧ t.fdBuf = s.fdBuf ∧ t.out.diag = .none)

/-- 30_encoding.md R79 and 93_implementation_defined.md I1 (the spec's own decision D21): a cycle that presents
`ev = 01` is refused, by that name, in every state. -/
def Obligations.ReservedEventIsRefused : Prop :=
  (∀ s : State, exec .evReserved s = .refused .reservedEvent)
    ∧ ∀ s : State, s.presents 0b01 → step s = .refused .reservedEvent

/-- A configuration that breaks 00_scope.md R7 is refused (93_implementation_defined.md I3 asks for it; that the model
does so at every step is its own choice, log entry 6). -/
def Obligations.IllegalConfigurationIsRefused : Prop :=
  ∀ s : State,
    ¬ (0 < s.cfg.tStart ∧ s.cfg.tStart < s.cfg.tIdle ∧ s.cfg.tIdle < 2 ^ (s.cfg.w - 1)
        ∧ (s.cfg.ifMode = .raw → 0 < s.cfg.tDb)) →
      step s = .refused .illegalConfig

/-! ## The protocol bytes: each decodes from its range, and does what its rule says and nothing else -/

/-- 43_dispatch_control.md R171: 0xB1 sets the layer flag whatever its value, with no command (the spec's own decision
D9); with `FN_EN = 0` it decodes to `UNK` (D11). That `exec` of `FNON`, to which no byte decodes there, then has the
`UNK` effect is the model's reading (log entry 10, DEDUCED). -/
def Obligations.LayerOnByteSetsTheFlag : Prop :=
  (∀ c : Config, decodePByte c 0xB1 = if c.fnEn then .fnon else .unk 0xB1)
    ∧ (∀ s : State, s.cfg.fnEn = true → exec .fnon s = .next { s with fn := true })
    ∧ ∀ s : State, s.cfg.fnEn = false → exec .fnon s = .next { s with out := { s.out with diag := .unknown 0xB1 } }

/-- 43_dispatch_control.md R172: 0xB2 clears the layer flag whatever its value, with no command and no diagnostic; with
`FN_EN = 0` it decodes to `UNK`. That `exec` of `FNOFF`, to which no byte decodes there, then has the `UNK` effect is
the model's reading (log entry 10, DEDUCED). -/
def Obligations.LayerOffByteClearsTheFlag : Prop :=
  (∀ c : Config, decodePByte c 0xB2 = if c.fnEn then .fnoff else .unk 0xB2)
    ∧ (∀ s : State, s.cfg.fnEn = true → exec .fnoff s = .next { s with fn := false })
    ∧ ∀ s : State, s.cfg.fnEn = false → exec .fnoff s = .next { s with out := { s.out with diag := .unknown 0xB2 } }

/-- 43_dispatch_control.md R173: the emergency clear emits exactly `release_all()`, clears the latch and requests the
decoder's reset; the layer flag stays (the spec's own decision D8). -/
def Obligations.EmergencyClearReleasesEverything : Prop :=
  (∀ c : Config, decodePByte c 0x9E = .eclr)
    ∧ ∀ s : State, exec .eclr s
        = .next { s with latch := 0x00, fdRstreq := true, out := { s.out with cmds := s.out.cmds ++ [.releaseAll] } }

/-- 43_dispatch_control.md R174, the press and release discipline: `press(0xE0 + k)` whatever the latch holds, bit `k`
set, the other seven bits and everything else unchanged (the unconditional press is the spec's own decision D12). -/
def Obligations.ModifierPressLatches : Prop :=
  (∀ (c : Config) (k : ModIdx), decodePByte c (BitVec.ofNat 8 (0x80 + k.val)) = .modp k)
    ∧ ∀ (s : State) (k : ModIdx), s.cfg.modMode = .pressRelease →
      ∃ l : BitVec 8, exec (.modp k) s
          = .next { s with
              latch := l,
              out := { s.out with cmds := s.out.cmds ++ [.press (BitVec.ofNat 8 (0xE0 + k.val))] } }
        ∧ ∀ i : Nat, l.getLsbD i = if i = k.val then true else s.latch.getLsbD i

/-- 43_dispatch_control.md R175, the toggle discipline: press and set bit `k` when it is clear, release and clear it
when it is set, everything else unchanged (which byte toggles is the spec's own decision D10). -/
def Obligations.ModifierToggleFlipsTheLatch : Prop :=
  ∀ (s : State) (k : ModIdx), s.cfg.modMode = .toggle →
    ∃ l : BitVec 8, exec (.modp k) s
        = .next { s with
            latch := l,
            out := { s.out with cmds := s.out.cmds ++
              [if s.latch.getLsbD k.val then .release (BitVec.ofNat 8 (0xE0 + k.val))
                else .press (BitVec.ofNat 8 (0xE0 + k.val))] } }
      ∧ ∀ i : Nat, l.getLsbD i = if i = k.val then !s.latch.getLsbD i else s.latch.getLsbD i

/-- 43_dispatch_control.md R176: `release(0xE0 + k)` whatever the latch holds, bit `k` cleared, everything else
unchanged (the unconditional release is the spec's own decision D12). That `exec` of `MODR` in the toggle discipline,
where the byte is `UNK` (D10) and none decodes to `MODR`, has the `UNK` effect is the model's reading (log entry 10,
DEDUCED). -/
def Obligations.ModifierReleaseUnlatches : Prop :=
  (∀ (c : Config) (k : ModIdx), c.modMode = .pressRelease →
      decodePByte c (BitVec.ofNat 8 (0x88 + k.val)) = .modr k)
    ∧ (∀ (s : State) (k : ModIdx), s.cfg.modMode = .pressRelease →
      ∃ l : BitVec 8, exec (.modr k) s
          = .next { s with
              latch := l,
              out := { s.out with cmds := s.out.cmds ++ [.release (BitVec.ofNat 8 (0xE0 + k.val))] } }
        ∧ ∀ i : Nat, l.getLsbD i = if i = k.val then false else s.latch.getLsbD i)
    ∧ ∀ (s : State) (k : ModIdx), s.cfg.modMode = .toggle →
      exec (.modr k) s = .next { s with out := { s.out with diag := .unknown (BitVec.ofNat 8 (0x88 + k.val)) } }

/-- 43_dispatch_control.md R178 (marked by the spec as its own inference): a modifier's press byte and then its release
byte emit exactly that press and that release, and leave the bit clear and the others as they were. -/
def Obligations.PressThenReleasePairs : Prop :=
  ∀ (s : State) (k : ModIdx), s.cfg.modMode = .pressRelease →
    ∃ t u, exec (.modp k) s = .next t ∧ exec (.modr k) t = .next u
      ∧ u.out.cmds = s.out.cmds ++ [.press (modKey k), .release (modKey k)]
      ∧ u.latch.getLsbD k.val = false ∧ ∀ i : Nat, i ≠ k.val → u.latch.getLsbD i = s.latch.getLsbD i

/-- 44_dispatch_keys.md R200: bytes 0x90 to 0x9D, a momentary tap of `NAV_TABLE[n]`; no state written, no diagnostic,
and 0x9E and 0x9F are not in the range. -/
def Obligations.NavigationByteTapsItsTableKey : Prop :=
  (∀ (c : Config) (n : Fin 14), decodePByte c (BitVec.ofNat 8 (0x90 + n.val)) = .nav n)
    ∧ (∀ c : Config, decodePByte c 0x9E = .eclr ∧ decodePByte c 0x9F = .unk 0x9F)
    ∧ ∀ (s : State) (n : Fin 14), exec (.nav n) s
        = .next { s with out := { s.out with
            cmds := s.out.cmds ++ [.press s.cfg.navTable[n], .release s.cfg.navTable[n]] } }

/-- 44_dispatch_keys.md R202: bytes 0xA0 to 0xAB, not layered, a momentary tap of F(n+1); 0xAC to 0xAF are unknown. -/
def Obligations.PlainFunctionKeyIsTapped : Prop :=
  (∀ (c : Config) (n : Fin 12), decodePByte c (BitVec.ofNat 8 (0xA0 + n.val)) = .fkey n)
    ∧ (∀ (c : Config) (b : Byte), 0xAC ≤ b → b ≤ 0xAF → decodePByte c b = .unk b)
    ∧ ∀ (s : State) (n : Fin 12), (s.cfg.fnEn = false ∨ s.fn = false ∨ s.cfg.fnMap[n] = none) →
      exec (.fkey n) s
        = .next { s with out := { s.out with
            cmds := s.out.cmds ++
              [.press (BitVec.ofNat 8 (0x3A + n.val)), .release (BitVec.ofNat 8 (0x3A + n.val))] } }

/-- 44_dispatch_keys.md R203: a layered function key is wrapped in its modifier, and `fn` stays set (the order of the
four commands is the spec's own decision D15). -/
def Obligations.LayeredFunctionKeyIsWrapped : Prop :=
  ∀ (s : State) (n : Fin 12) (m : ModIdx), s.cfg.fnEn = true → s.fn = true → s.cfg.fnMap[n] = some m →
    exec (.fkey n) s
      = .next { s with out := { s.out with
          cmds := s.out.cmds ++
            [.press (BitVec.ofNat 8 (0xE0 + m.val)), .press (BitVec.ofNat 8 (0x3A + n.val)),
              .release (BitVec.ofNat 8 (0x3A + n.val)), .release (BitVec.ofNat 8 (0xE0 + m.val))] } }

/-- 44_dispatch_keys.md R205: byte 0xB0, a momentary tap of caps lock, and nothing else. -/
def Obligations.CapsByteTapsCapsLock : Prop :=
  (∀ c : Config, decodePByte c 0xB0 = .caps)
    ∧ ∀ s : State, exec .caps s
        = .next { s with out := { s.out with cmds := s.out.cmds ++ [.press 0x39, .release 0x39] } }

/-- 44_dispatch_keys.md R206: bytes 0x01 to 0x1A, the letter `'a' + (b - 1)` wrapped in L-Ctrl, whatever the latch
holds, and no state written (that the usage is computed and not read from the table is the spec's own decision D35). -/
def Obligations.ControlByteTapsTheLetterUnderCtrl : Prop :=
  (∀ (c : Config) (j : Fin 26), decodePByte c (BitVec.ofNat 8 (0x01 + j.val)) = .ctrlchr j)
    ∧ ∀ (s : State) (j : Fin 26), exec (.ctrlchr j) s
        = .next { s with out := { s.out with
            cmds := s.out.cmds ++
              [.press 0xE0, .press (BitVec.ofNat 8 (0x04 + j.val)),
                .release (BitVec.ofNat 8 (0x04 + j.val)), .release 0xE0] } }

/-- 44_dispatch_keys.md R207 and R208: bytes 0x20 to 0x7E; a character in the table is tapped, wrapped in L-Shift when
it needs shift (L-Shift is the spec's own decision D14); an absent one is requested from the layout service by its
code (D18); no state written, and 0x7F is not in the range. -/
def Obligations.PrintableByteTypesItsCharacter : Prop :=
  (∀ (c : Config) (i : Fin 95), decodePByte c (BitVec.ofNat 8 (0x20 + i.val)) = .print i)
    ∧ (∀ c : Config, decodePByte c 0x7F = .unk 0x7F)
    ∧ (∀ (s : State) (i : Fin 95) (kc : Key), s.cfg.charTable[i] = some ⟨kc, true⟩ →
      exec (.print i) s
        = .next { s with out := { s.out with
            cmds := s.out.cmds ++ [.press 0xE1, .press kc, .release kc, .release 0xE1] } })
    ∧ (∀ (s : State) (i : Fin 95) (kc : Key), s.cfg.charTable[i] = some ⟨kc, false⟩ →
      exec (.print i) s
        = .next { s with out := { s.out with cmds := s.out.cmds ++ [.press kc, .release kc] } })
    ∧ ∀ (s : State) (i : Fin 95), s.cfg.charTable[i] = none →
      exec (.print i) s
        = .next { s with out := { s.out with
            cmds := s.out.cmds ++ [.layout (BitVec.ofNat 8 (0x20 + i.val))] } }

/-- 44_dispatch_keys.md R210: a byte that `class` maps to `UNK` emits the diagnostic with the byte, no command, and
writes no state; the rule's corner cases are such bytes. -/
def Obligations.UnknownByteIsOnlyLogged : Prop :=
  (∀ (s : State) (u : Byte), classOf s.cfg u = .unk →
      decodePByte s.cfg u = .unk u ∧ exec (.unk u) s = .next { s with out := { s.out with diag := .unknown u } })
    ∧ ∀ c : Config, classOf c 0x00 = .unk ∧ classOf c 0x7F = .unk ∧ classOf c 0x9F = .unk ∧ classOf c 0xFF = .unk
      ∧ (c.fnEn = false → classOf c 0xB1 = .unk ∧ classOf c 0xB2 = .unk)
      ∧ (c.modMode = .toggle → ∀ b : Byte, 0x88 ≤ b → b ≤ 0x8F → classOf c b = .unk)

/-- 44_dispatch_keys.md R211 and R213 (marked by the spec as its own inferences): for every byte, in every state and
configuration, `dispatch` answers a next state and appends exactly as many commands as the byte's class says, at most
four. -/
def Obligations.DispatchIsTotalWithBoundedCommands : Prop :=
  ∀ (b : Byte) (s : State), ∃ (t : State) (cs : List Cmd),
    dispatch b s = .next t ∧ exec (decodePByte s.cfg b) s = .next t ∧ t.out.cmds = s.out.cmds ++ cs
      ∧ cs.length ≤ 4
      ∧ (match classOf s.cfg b with
        | .fnon | .fnoff | .unk => cs.length = 0
        | .eclr | .modp | .modr => cs.length = 1
        | .nav | .caps => cs.length = 2
        | .ctrlchr => cs.length = 4
        | .fkey => cs.length = if (layerMod (operandFkey b) s).isSome then 4 else 2
        | .print => cs.length = match readChar s.cfg (operandC b) with
          | none => 1
          | some e => if e.shift then 4 else 2)

/-- Frame of the key bytes (43_dispatch_control.md R179, marked by the spec as its own inference): no byte of
44_dispatch_keys.md writes `latch`, `fn`, `fd_rstreq` or any decoder or sampler field; commands already emitted stay. -/
def Obligations.KeyBytesWriteOnlyOutputs : Prop :=
  ∀ (i : Instr) (s : State),
    (match i with
      | .nav _ | .fkey _ | .caps | .ctrlchr _ | .print _ | .unk _ => True
      | _ => False) →
    ∃ o : Outputs, exec i s = .next { s with out := o } ∧ s.out.cmds <+: o.cmds
      ∧ o.byteV = s.out.byteV ∧ o.byteO = s.out.byteO

/-! ## The whole machine -/

/-- The invariant of 10_state.md R35, with the widths of the timestamps and the sampler's rest in EDGE mode (R30), is
kept by every step from every state that has it (marked by the spec as its own inference; the byte that a RAW step
shows is the joined one of log entry 4). -/
def Obligations.EveryStepKeepsTheStateInvariant : Prop :=
  ∀ s t : State, s.Inv → step s = .next t → t.Inv

/-- The invariant holds right after reset (70_reset_and_hazards.md R270, the spec's own decision D24; the parameters and
ports of `State.reset` are those of log entry 8). -/
def Obligations.ResetStateHasTheStateInvariant : Prop :=
  State.reset.Inv

/-- 40_cycle.md R106 and R107, 60_exceptions.md R242: "Nothing in this core is fatal". Under a valid configuration
every step answers a next state, in every state and for every input but the reserved event (the spec's own decision
D21). That the event is refused only where the block reads it, so that a step with `rst = 1` or in RAW mode goes on
whatever `ev` is, is the model's reading (log entry 7, DEDUCED). -/
def Obligations.TheBlockNeverHalts : Prop :=
  ∀ s : State, s.cfg.valid = true →
    (s.cfg.ifMode = .edge → s.sample.port.rst = false → s.sample.port.ev ≠ 0b01) →
    ∃ t, step s = .next t

/-- 40_cycle.md R104 (marked by the spec as its own inference). A step, EDGE or RAW, from any state, emits at most four
commands and none without a byte, and shows no timeout beside a byte; a RAW step shows its two cycles' outputs as joined
by log entry 4 (DEDUCED). The last clause is of those two cycles themselves, so nothing is lost in the join: when the
first forms a byte or raises a diagnostic, the second forms no byte, emits no command and raises no diagnostic. -/
def Obligations.StepOutputsAreBounded : Prop :=
  (∀ s t : State, step s = .next t →
    t.out.cmds.length ≤ 4 ∧ (t.out.byteV = false → t.out.cmds = [])
      ∧ (t.out.byteV = true → t.out.diag = .none ∨ t.out.diag = .unknown t.out.byteO)
      ∧ (t.out.byteV = false → ∀ b, t.out.diag ≠ .unknown b))
    ∧ ∀ s t u : State, s.cfg.valid = true → s.cfg.ifMode = .raw → s.sample.port.rst = false →
      s.sample.sampleZero.2 = true → s.sample.sampleOne.2 = true →
      exec .evZero s.sample.lsWrite.prepare = .next t → exec .evOne t.prepare = .next u →
      t.out.byteV = true ∨ t.out.diag ≠ .none →
      u.out = { cmds := [], diag := .none, byteV := false, byteO := 0x00 }

/-- 10_state.md R36 and 43_dispatch_control.md R179: who may change the dispatcher's state. In a step without reset,
EDGE or RAW (where the byte is the joined one of log entry 4), the latch changes only when the step formed a modifier
byte or the emergency clear, the layer flag only when it formed a layer byte; a reset request is pending after a step
only if that step formed the emergency clear; a step that formed no byte (a timeout among them) changes neither latch
nor layer. -/
def Obligations.OnlyTheirBytesChangeLatchAndLayer : Prop :=
  ∀ s t : State, step s = .next t → s.sample.port.rst = false →
    (t.latch ≠ s.latch → t.out.byteV = true ∧ (t.out.byteO = 0x9E ∨ (0x80 ≤ t.out.byteO ∧ t.out.byteO ≤ 0x8F)))
      ∧ (t.fn ≠ s.fn → t.out.byteV = true ∧ s.cfg.fnEn = true ∧ (t.out.byteO = 0xB1 ∨ t.out.byteO = 0xB2))
      ∧ (t.fdRstreq = true → t.out.byteV = true ∧ t.out.byteO = 0x9E)
      ∧ (Cmd.releaseAll ∈ t.out.cmds ↔ t.out.byteV = true ∧ t.out.byteO = 0x9E)

/-- 42_frame_decoder.md R154 (marked by the spec as its own inference), EDGE mode: a byte is formed only by an edge that
finds seven bits in RX within `T_IDLE` of the last one; its value is those seven bits and the edge's line, first bit
highest, and the decoder ends idle. No partial byte is ever emitted. -/
def Obligations.NoPartialByteIsEverEmitted : Prop :=
  ∀ s t : State, s.cfg.ifMode = .edge → step s = .next t → t.out.byteV = true →
    s.fdSt = .rx ∧ s.fdCnt = 7 ∧ s.fdRstreq = false ∧ s.sample.port.rst = false
      ∧ elapsed s.cfg.w s.sample.port.now s.fdTref ≤ s.cfg.tIdle
      ∧ s.sample.port.ev.getLsbD 1 = true
      ∧ t.out.byteO.toNat = 2 * s.fdBuf.toNat + (s.sample.port.ev.getLsbD 0).toNat
      ∧ t.isIdle = true

/-- The parameters never change (00_scope.md R6), and a step takes exactly one input (the model's choice, log entries 1
and 2). The sampler's state is written by the sampler alone (10_state.md R36): in EDGE mode not at all (R30), in RAW
mode as the two lines' samples say, whatever the decoder and the dispatcher do. -/
def Obligations.ParametersAndSamplerKeepToThemselves : Prop :=
  ∀ s t : State, step s = .next t →
    t.cfg = s.cfg ∧ t.inputs = s.inputs.tail
      ∧ (s.sample.port.rst = false → s.cfg.ifMode = .edge → t.ls0 = s.ls0 ∧ t.ls1 = s.ls1)
      ∧ (s.sample.port.rst = false → s.cfg.ifMode = .raw →
        t.ls0 = (s.ls0.sample s.cfg s.sample.port.now (s.sample.port.raw.getLsbD 0)).1
          ∧ t.ls1 = (s.ls1.sample s.cfg s.sample.port.now (s.sample.port.raw.getLsbD 1)).1)

/-- 42_frame_decoder.md R155 (marked by the spec as its own inference), `START_EN = 1`: from idle, the ten edges of
`FRAME b @ t, d` with `d <= T_START` form exactly the byte `b` at the tenth, and no byte before it, leave the decoder
in AS0, and the last step is the byte's own instruction from the dispatcher's state as it was. -/
def Obligations.FrameWithStartSymbolYieldsItsByte : Prop :=
  ∀ (s : State) (b : Byte) (t d : Nat) (rest : List Input),
    s.cfg.valid = true → s.cfg.ifMode = .edge → s.cfg.startEn = true → s.isIdle = true → s.fdRstreq = false →
    d ≤ s.cfg.tStart → s.inputs = frameEdges s.cfg b t d ++ rest →
    (∀ k : Nat, 0 < k → k < 10 → ∃ u, Host.Core.run Sys2Proof.core k s = .next u ∧ State.out u =
        { cmds := [], diag := .none, byteV := false, byteO := 0x00 })
      ∧ ∃ p u : State, Host.Core.run Sys2Proof.core 10 s = .next u ∧ exec (decodePByte s.cfg b) p = .next u
        ∧ p.latch = s.latch ∧ p.fn = s.fn ∧ p.out.cmds = [] ∧ u.out.byteV = true ∧ u.out.byteO = b
        ∧ u.fdSt = .as0 ∧ u.fdCnt = 0 ∧ u.fdBuf = 0 ∧ u.inputs = rest

/-- 42_frame_decoder.md R155 (marked by the spec as its own inference), `START_EN = 0` (the spec's own decision D7):
from RX with an empty buffer, the eight edges of `BITS b/8 @ t, d` with `d <= T_IDLE` form exactly `b` at the eighth. -/
def Obligations.FrameWithoutStartSymbolYieldsItsByte : Prop :=
  ∀ (s : State) (b : Byte) (t d : Nat) (rest : List Input),
    s.cfg.valid = true → s.cfg.ifMode = .edge → s.cfg.startEn = false → s.isIdle = true → s.fdRstreq = false →
    d ≤ s.cfg.tIdle → s.inputs = frameEdges s.cfg b t d ++ rest →
    (∀ k : Nat, 0 < k → k < 8 → ∃ u, Host.Core.run Sys2Proof.core k s = .next u ∧ State.out u =
        { cmds := [], diag := .none, byteV := false, byteO := 0x00 })
      ∧ ∃ p u : State, Host.Core.run Sys2Proof.core 8 s = .next u ∧ exec (decodePByte s.cfg b) p = .next u
        ∧ p.latch = s.latch ∧ p.fn = s.fn ∧ p.out.cmds = [] ∧ u.out.byteV = true ∧ u.out.byteO = b
        ∧ u.fdSt = .rx ∧ u.fdCnt = 0 ∧ u.fdBuf = 0 ∧ u.inputs = rest

/-- 42_frame_decoder.md R156 (marked by the spec as its own inference), `START_EN = 1`: after a silence longer than
`T_IDLE`, a ZERO edge begins a start symbol whatever state the decoder was left in, and nothing of an older frame
survives. -/
def Obligations.SilenceResynchronisesTheDecoder : Prop :=
  ∀ (s : State) (d : Nat), s.presents 0b10 → s.since d → s.fdInv → s.cfg.startEn = true → s.cfg.tIdle < d →
    ∃ t, step s = .next t ∧ t.fdSt = .as1 ∧ t.fdTref = s.sample.port.now ∧ t.fdCnt = 0 ∧ t.fdBuf = 0
      ∧ t.fdRstreq = false ∧ t.latch = s.latch ∧ t.fn = s.fn ∧ t.out.cmds = [] ∧ t.out.byteV = false

/-- 40_cycle.md R105 (marked by the spec as its own inference): the framing result does not depend on idle cycles. An
`EV_NONE` cycle before an edge, at a time not past the edge's (70_reset_and_hazards.md R273), leaves the decoder, the
dispatcher, the commands and the byte of the edge's cycle as they would be without it. -/
def Obligations.IdleCyclesDoNotChangeFraming : Prop :=
  ∀ (s : State) (a b : Input) (rest : List Input),
    s.cfg.valid = true → s.cfg.ifMode = .edge → s.fdInv → s.inputs = a :: b :: rest →
    a.rst = false → a.ev = 0b00 → b.rst = false → b.ev ≠ 0b01 →
    elapsed s.cfg.w (a.now % 2 ^ s.cfg.w) s.fdTref ≤ elapsed s.cfg.w (b.now % 2 ^ s.cfg.w) s.fdTref →
    ∃ u v x : State, step s = .next u ∧ step u = .next v ∧ step { s with inputs := b :: rest } = .next x
      ∧ v.fdSt = x.fdSt ∧ v.fdCnt = x.fdCnt ∧ v.fdBuf = x.fdBuf ∧ v.fdTref = x.fdTref ∧ v.fdRstreq = x.fdRstreq
      ∧ v.latch = x.latch ∧ v.fn = x.fn ∧ v.out.cmds = x.out.cmds ∧ v.out.byteV = x.out.byteV
      ∧ v.out.byteO = x.out.byteO ∧ v.inputs = x.inputs

/-- 43_dispatch_control.md R173, 42_frame_decoder.md R141, R151 (and 90_conflicts.md C7, C10): the frame of 0x9E, from
any latch and layer, yields `release_all()`, an empty latch and an idle decoder with an empty buffer in that very step,
and the next step without an edge only clears the request. (The kept layer flag is the spec's own decision D8.) -/
def Obligations.EmergencyClearIsImmediateAndDoneOnce : Prop :=
  ∀ s : State, ({ s.cfg with ifMode := .edge } : Config).valid = true →
    ∃ t, step (s.withByte 0x9E) = .next t ∧ t.out.cmds = [.releaseAll] ∧ t.latch = 0x00 ∧ t.fn = s.fn
      ∧ t.isIdle = true ∧ t.fdRstreq = true
      ∧ ∀ d : Nat, t.presents 0b00 → t.since d →
        ∃ u, step t = .next u ∧ u.fdRstreq = false ∧ u.isIdle = true ∧ u.fdTref = t.fdTref ∧ u.latch = 0x00
          ∧ u.fn = s.fn ∧ u.out = { cmds := [], diag := .none, byteV := false, byteO := 0x00 }

/-! ## The Line Sampler (every rule of 41_line_sampler.md is the spec's own decision D1 or D22) -/

/-- 41_line_sampler.md R121: the transition table of one line, for every level, time and stability. -/
def Obligations.DebouncerFollowsItsTable : Prop :=
  ∀ (c : Config) (now : Nat) (l : LineState),
    let stable := c.tDb ≤ elapsed c.w now l.tchg
    (∀ db : Bool, ∀ lvl : Bool, l.db = db → l.raw ≠ lvl →
        l.sample c now lvl = ({ db := db, raw := lvl, tchg := now }, false))
      ∧ (∀ lvl : Bool, l.raw = lvl → l.db = lvl → l.sample c now lvl = (l, false))
      ∧ (∀ lvl : Bool, l.raw = lvl → l.db ≠ lvl → ¬ stable → l.sample c now lvl = (l, false))
      ∧ (l.raw = false → l.db = true → stable →
        l.sample c now false = ({ db := false, raw := false, tchg := l.tchg }, true))
      ∧ (l.raw = true → l.db = false → stable →
        l.sample c now true = ({ db := true, raw := true, tchg := l.tchg }, false))

/-- 41_line_sampler.md R122: only an accepted fall is an edge event: the line was inactive, the active level has been
sampled unchanged for at least `T_DB`, and the line is active from then on. -/
def Obligations.OnlyAStableFallIsAnEdge : Prop :=
  ∀ (c : Config) (now : Nat) (level : Bool) (l : LineState),
    (l.sample c now level).2 = true ↔
      level = false ∧ l.raw = false ∧ l.db = true ∧ c.tDb ≤ elapsed c.w now l.tchg

/-- 41_line_sampler.md R124 (marked by the spec as its own inference): an active pulse shorter than `T_DB` is never
reported. From an inactive line, a fall at `t0`, any samples of the active level less than `T_DB` after it, and a rise
give no event and leave the debounced level inactive. -/
def Obligations.ShortPulseIsNeverReported : Prop :=
  ∀ (c : Config) (l : LineState) (t0 t1 : Nat) (ts : List Nat), l.db = true → l.raw = true →
    (∀ t ∈ ts, elapsed c.w t t0 < c.tDb) →
    (l.samples c ((t0, false) :: ts.map (fun t => (t, false)) ++ [(t1, true)])).1
        = { db := true, raw := true, tchg := t1 }
      ∧ true ∉ (l.samples c ((t0, false) :: ts.map (fun t => (t, false)) ++ [(t1, true)])).2

/-- 41_line_sampler.md R124, R120: an active level sampled at its fall and again at least `T_DB` later, with only
active samples between, is reported exactly once, however long the line is then held. -/
def Obligations.HeldPulseIsReportedOnce : Prop :=
  ∀ (c : Config) (l : LineState) (t0 : Nat) (ts : List Nat), l.db = true → l.raw = true →
    (∃ t ∈ ts, c.tDb ≤ elapsed c.w t t0) →
    (l.samples c ((t0, false) :: ts.map (fun t => (t, false)))).1 = { db := false, raw := false, tchg := t0 }
      ∧ (l.samples c ((t0, false) :: ts.map (fun t => (t, false)))).2.count true = 1
end

