-- ==== Sys2Proof/Laws/Decode.lean ====
section
/-! SUPPORT. Decoding a byte depends on the parameters only through `FN_EN` and `MOD_MODE` (spec/30_encoding.md R78),
so a fact about every byte under every configuration is one about 256 bytes and four pairs of flags. -/

namespace Sys2Proof

/-- The default parameters with the two flags that decoding reads. -/
def Config.withFlags (fnEn : Bool) (m : ModMode) : Config := { Config.default with fnEn := fnEn, modMode := m }

theorem classOf_withFlags (c : Config) (b : Byte) : classOf c b = classOf (Config.withFlags c.fnEn c.modMode) b := rfl

theorem decodePByte_withFlags (c : Config) (b : Byte) :
    decodePByte c b = decodePByte (Config.withFlags c.fnEn c.modMode) b := rfl

theorem wf_withFlags (c : Config) (i : Instr) : i.wf c = i.wf (Config.withFlags c.fnEn c.modMode) := by
  cases i <;> rfl

/-- A property of the two flags holds of every configuration once it holds of the four pairs. -/
theorem forall_flags {p : Config → Prop} (h : ∀ c, p c ↔ p (Config.withFlags c.fnEn c.modMode))
    (h1 : p (Config.withFlags true .pressRelease)) (h2 : p (Config.withFlags true .toggle))
    (h3 : p (Config.withFlags false .pressRelease)) (h4 : p (Config.withFlags false .toggle)) (c : Config) : p c := by
  rw [h c]
  cases c.fnEn <;> cases c.modMode <;> assumption

end Sys2Proof
end

