-- ==== Sys2Proof/Laws/State.lean ====
section
/-! SUPPORT. One lemma per field per update of State, all true by rfl and tagged for simp, so that no later proof
unfolds a record update. -/

namespace Sys2Proof.Machine

/-! What `clearOut` does to each field. -/

@[simp] theorem State.clearOut_cfg (s : State) : (s.clearOut).cfg = s.cfg := rfl
@[simp] theorem State.clearOut_fdSt (s : State) : (s.clearOut).fdSt = s.fdSt := rfl
@[simp] theorem State.clearOut_fdCnt (s : State) : (s.clearOut).fdCnt = s.fdCnt := rfl
@[simp] theorem State.clearOut_fdBuf (s : State) : (s.clearOut).fdBuf = s.fdBuf := rfl
@[simp] theorem State.clearOut_fdTref (s : State) : (s.clearOut).fdTref = s.fdTref := rfl
@[simp] theorem State.clearOut_fdRstreq (s : State) : (s.clearOut).fdRstreq = s.fdRstreq := rfl
@[simp] theorem State.clearOut_latch (s : State) : (s.clearOut).latch = s.latch := rfl
@[simp] theorem State.clearOut_fn (s : State) : (s.clearOut).fn = s.fn := rfl
@[simp] theorem State.clearOut_ls0 (s : State) : (s.clearOut).ls0 = s.ls0 := rfl
@[simp] theorem State.clearOut_ls1 (s : State) : (s.clearOut).ls1 = s.ls1 := rfl
@[simp] theorem State.clearOut_port (s : State) : (s.clearOut).port = s.port := rfl
@[simp] theorem State.clearOut_out (s : State) : (s.clearOut).out = Outputs.empty := rfl
@[simp] theorem State.clearOut_inputs (s : State) : (s.clearOut).inputs = s.inputs := rfl
@[simp] theorem State.clearOut_cycles (s : State) : (s.clearOut).cycles = s.cycles := rfl

/-! What `emitCmd` does to each field. -/

@[simp] theorem State.emitCmd_cfg (c : Cmd) (s : State) : (s.emitCmd c).cfg = s.cfg := rfl
@[simp] theorem State.emitCmd_fdSt (c : Cmd) (s : State) : (s.emitCmd c).fdSt = s.fdSt := rfl
@[simp] theorem State.emitCmd_fdCnt (c : Cmd) (s : State) : (s.emitCmd c).fdCnt = s.fdCnt := rfl
@[simp] theorem State.emitCmd_fdBuf (c : Cmd) (s : State) : (s.emitCmd c).fdBuf = s.fdBuf := rfl
@[simp] theorem State.emitCmd_fdTref (c : Cmd) (s : State) : (s.emitCmd c).fdTref = s.fdTref := rfl
@[simp] theorem State.emitCmd_fdRstreq (c : Cmd) (s : State) : (s.emitCmd c).fdRstreq = s.fdRstreq := rfl
@[simp] theorem State.emitCmd_latch (c : Cmd) (s : State) : (s.emitCmd c).latch = s.latch := rfl
@[simp] theorem State.emitCmd_fn (c : Cmd) (s : State) : (s.emitCmd c).fn = s.fn := rfl
@[simp] theorem State.emitCmd_ls0 (c : Cmd) (s : State) : (s.emitCmd c).ls0 = s.ls0 := rfl
@[simp] theorem State.emitCmd_ls1 (c : Cmd) (s : State) : (s.emitCmd c).ls1 = s.ls1 := rfl
@[simp] theorem State.emitCmd_port (c : Cmd) (s : State) : (s.emitCmd c).port = s.port := rfl
@[simp] theorem State.emitCmd_out (c : Cmd) (s : State) :
    (s.emitCmd c).out = { s.out with cmds := s.out.cmds ++ [c] } := rfl
@[simp] theorem State.emitCmd_inputs (c : Cmd) (s : State) : (s.emitCmd c).inputs = s.inputs := rfl
@[simp] theorem State.emitCmd_cycles (c : Cmd) (s : State) : (s.emitCmd c).cycles = s.cycles := rfl

/-! What `emitDiag` does to each field. -/

@[simp] theorem State.emitDiag_cfg (d : Diag) (s : State) : (s.emitDiag d).cfg = s.cfg := rfl
@[simp] theorem State.emitDiag_fdSt (d : Diag) (s : State) : (s.emitDiag d).fdSt = s.fdSt := rfl
@[simp] theorem State.emitDiag_fdCnt (d : Diag) (s : State) : (s.emitDiag d).fdCnt = s.fdCnt := rfl
@[simp] theorem State.emitDiag_fdBuf (d : Diag) (s : State) : (s.emitDiag d).fdBuf = s.fdBuf := rfl
@[simp] theorem State.emitDiag_fdTref (d : Diag) (s : State) : (s.emitDiag d).fdTref = s.fdTref := rfl
@[simp] theorem State.emitDiag_fdRstreq (d : Diag) (s : State) : (s.emitDiag d).fdRstreq = s.fdRstreq := rfl
@[simp] theorem State.emitDiag_latch (d : Diag) (s : State) : (s.emitDiag d).latch = s.latch := rfl
@[simp] theorem State.emitDiag_fn (d : Diag) (s : State) : (s.emitDiag d).fn = s.fn := rfl
@[simp] theorem State.emitDiag_ls0 (d : Diag) (s : State) : (s.emitDiag d).ls0 = s.ls0 := rfl
@[simp] theorem State.emitDiag_ls1 (d : Diag) (s : State) : (s.emitDiag d).ls1 = s.ls1 := rfl
@[simp] theorem State.emitDiag_port (d : Diag) (s : State) : (s.emitDiag d).port = s.port := rfl
@[simp] theorem State.emitDiag_out (d : Diag) (s : State) : (s.emitDiag d).out = { s.out with diag := d } := rfl
@[simp] theorem State.emitDiag_inputs (d : Diag) (s : State) : (s.emitDiag d).inputs = s.inputs := rfl
@[simp] theorem State.emitDiag_cycles (d : Diag) (s : State) : (s.emitDiag d).cycles = s.cycles := rfl

/-! What `emitByte` does to each field. -/

@[simp] theorem State.emitByte_cfg (b : Byte) (s : State) : (s.emitByte b).cfg = s.cfg := rfl
@[simp] theorem State.emitByte_fdSt (b : Byte) (s : State) : (s.emitByte b).fdSt = s.fdSt := rfl
@[simp] theorem State.emitByte_fdCnt (b : Byte) (s : State) : (s.emitByte b).fdCnt = s.fdCnt := rfl
@[simp] theorem State.emitByte_fdBuf (b : Byte) (s : State) : (s.emitByte b).fdBuf = s.fdBuf := rfl
@[simp] theorem State.emitByte_fdTref (b : Byte) (s : State) : (s.emitByte b).fdTref = s.fdTref := rfl
@[simp] theorem State.emitByte_fdRstreq (b : Byte) (s : State) : (s.emitByte b).fdRstreq = s.fdRstreq := rfl
@[simp] theorem State.emitByte_latch (b : Byte) (s : State) : (s.emitByte b).latch = s.latch := rfl
@[simp] theorem State.emitByte_fn (b : Byte) (s : State) : (s.emitByte b).fn = s.fn := rfl
@[simp] theorem State.emitByte_ls0 (b : Byte) (s : State) : (s.emitByte b).ls0 = s.ls0 := rfl
@[simp] theorem State.emitByte_ls1 (b : Byte) (s : State) : (s.emitByte b).ls1 = s.ls1 := rfl
@[simp] theorem State.emitByte_port (b : Byte) (s : State) : (s.emitByte b).port = s.port := rfl
@[simp] theorem State.emitByte_out (b : Byte) (s : State) :
    (s.emitByte b).out = { s.out with byteV := true, byteO := b } := rfl
@[simp] theorem State.emitByte_inputs (b : Byte) (s : State) : (s.emitByte b).inputs = s.inputs := rfl
@[simp] theorem State.emitByte_cycles (b : Byte) (s : State) : (s.emitByte b).cycles = s.cycles := rfl

/-! What `unknownByte` does to each field. -/

@[simp] theorem State.unknownByte_cfg (b : Byte) (s : State) : (s.unknownByte b).cfg = s.cfg := rfl
@[simp] theorem State.unknownByte_fdSt (b : Byte) (s : State) : (s.unknownByte b).fdSt = s.fdSt := rfl
@[simp] theorem State.unknownByte_fdCnt (b : Byte) (s : State) : (s.unknownByte b).fdCnt = s.fdCnt := rfl
@[simp] theorem State.unknownByte_fdBuf (b : Byte) (s : State) : (s.unknownByte b).fdBuf = s.fdBuf := rfl
@[simp] theorem State.unknownByte_fdTref (b : Byte) (s : State) : (s.unknownByte b).fdTref = s.fdTref := rfl
@[simp] theorem State.unknownByte_fdRstreq (b : Byte) (s : State) : (s.unknownByte b).fdRstreq = s.fdRstreq := rfl
@[simp] theorem State.unknownByte_latch (b : Byte) (s : State) : (s.unknownByte b).latch = s.latch := rfl
@[simp] theorem State.unknownByte_fn (b : Byte) (s : State) : (s.unknownByte b).fn = s.fn := rfl
@[simp] theorem State.unknownByte_ls0 (b : Byte) (s : State) : (s.unknownByte b).ls0 = s.ls0 := rfl
@[simp] theorem State.unknownByte_ls1 (b : Byte) (s : State) : (s.unknownByte b).ls1 = s.ls1 := rfl
@[simp] theorem State.unknownByte_port (b : Byte) (s : State) : (s.unknownByte b).port = s.port := rfl
@[simp] theorem State.unknownByte_out (b : Byte) (s : State) :
    (s.unknownByte b).out = { s.out with diag := .unknown b } := rfl
@[simp] theorem State.unknownByte_inputs (b : Byte) (s : State) : (s.unknownByte b).inputs = s.inputs := rfl
@[simp] theorem State.unknownByte_cycles (b : Byte) (s : State) : (s.unknownByte b).cycles = s.cycles := rfl

/-! What `tap` does to each field. -/

@[simp] theorem State.tap_cfg (k : Key) (s : State) : (s.tap k).cfg = s.cfg := rfl
@[simp] theorem State.tap_fdSt (k : Key) (s : State) : (s.tap k).fdSt = s.fdSt := rfl
@[simp] theorem State.tap_fdCnt (k : Key) (s : State) : (s.tap k).fdCnt = s.fdCnt := rfl
@[simp] theorem State.tap_fdBuf (k : Key) (s : State) : (s.tap k).fdBuf = s.fdBuf := rfl
@[simp] theorem State.tap_fdTref (k : Key) (s : State) : (s.tap k).fdTref = s.fdTref := rfl
@[simp] theorem State.tap_fdRstreq (k : Key) (s : State) : (s.tap k).fdRstreq = s.fdRstreq := rfl
@[simp] theorem State.tap_latch (k : Key) (s : State) : (s.tap k).latch = s.latch := rfl
@[simp] theorem State.tap_fn (k : Key) (s : State) : (s.tap k).fn = s.fn := rfl
@[simp] theorem State.tap_ls0 (k : Key) (s : State) : (s.tap k).ls0 = s.ls0 := rfl
@[simp] theorem State.tap_ls1 (k : Key) (s : State) : (s.tap k).ls1 = s.ls1 := rfl
@[simp] theorem State.tap_port (k : Key) (s : State) : (s.tap k).port = s.port := rfl
@[simp] theorem State.tap_out (k : Key) (s : State) :
    (s.tap k).out = { s.out with cmds := s.out.cmds ++ [.press k] ++ [.release k] } := rfl
@[simp] theorem State.tap_inputs (k : Key) (s : State) : (s.tap k).inputs = s.inputs := rfl
@[simp] theorem State.tap_cycles (k : Key) (s : State) : (s.tap k).cycles = s.cycles := rfl

/-! What `wrapTap` does to each field. -/

@[simp] theorem State.wrapTap_cfg (m : ModIdx) (k : Key) (s : State) : (s.wrapTap m k).cfg = s.cfg := rfl
@[simp] theorem State.wrapTap_fdSt (m : ModIdx) (k : Key) (s : State) : (s.wrapTap m k).fdSt = s.fdSt := rfl
@[simp] theorem State.wrapTap_fdCnt (m : ModIdx) (k : Key) (s : State) : (s.wrapTap m k).fdCnt = s.fdCnt := rfl
@[simp] theorem State.wrapTap_fdBuf (m : ModIdx) (k : Key) (s : State) : (s.wrapTap m k).fdBuf = s.fdBuf := rfl
@[simp] theorem State.wrapTap_fdTref (m : ModIdx) (k : Key) (s : State) : (s.wrapTap m k).fdTref = s.fdTref := rfl
@[simp] theorem State.wrapTap_fdRstreq (m : ModIdx) (k : Key) (s : State) :
    (s.wrapTap m k).fdRstreq = s.fdRstreq := rfl
@[simp] theorem State.wrapTap_latch (m : ModIdx) (k : Key) (s : State) : (s.wrapTap m k).latch = s.latch := rfl
@[simp] theorem State.wrapTap_fn (m : ModIdx) (k : Key) (s : State) : (s.wrapTap m k).fn = s.fn := rfl
@[simp] theorem State.wrapTap_ls0 (m : ModIdx) (k : Key) (s : State) : (s.wrapTap m k).ls0 = s.ls0 := rfl
@[simp] theorem State.wrapTap_ls1 (m : ModIdx) (k : Key) (s : State) : (s.wrapTap m k).ls1 = s.ls1 := rfl
@[simp] theorem State.wrapTap_port (m : ModIdx) (k : Key) (s : State) : (s.wrapTap m k).port = s.port := rfl
@[simp] theorem State.wrapTap_out (m : ModIdx) (k : Key) (s : State) :
    (s.wrapTap m k).out = { s.out with
      cmds := s.out.cmds ++ [.press (modKey m)] ++ [.press k] ++ [.release k] ++ [.release (modKey m)] } := rfl
@[simp] theorem State.wrapTap_inputs (m : ModIdx) (k : Key) (s : State) : (s.wrapTap m k).inputs = s.inputs := rfl
@[simp] theorem State.wrapTap_cycles (m : ModIdx) (k : Key) (s : State) : (s.wrapTap m k).cycles = s.cycles := rfl

/-! What `setLatch` does to each field. -/

@[simp] theorem State.setLatch_cfg (v : BitVec 8) (s : State) : (s.setLatch v).cfg = s.cfg := rfl
@[simp] theorem State.setLatch_fdSt (v : BitVec 8) (s : State) : (s.setLatch v).fdSt = s.fdSt := rfl
@[simp] theorem State.setLatch_fdCnt (v : BitVec 8) (s : State) : (s.setLatch v).fdCnt = s.fdCnt := rfl
@[simp] theorem State.setLatch_fdBuf (v : BitVec 8) (s : State) : (s.setLatch v).fdBuf = s.fdBuf := rfl
@[simp] theorem State.setLatch_fdTref (v : BitVec 8) (s : State) : (s.setLatch v).fdTref = s.fdTref := rfl
@[simp] theorem State.setLatch_fdRstreq (v : BitVec 8) (s : State) : (s.setLatch v).fdRstreq = s.fdRstreq := rfl
@[simp] theorem State.setLatch_latch (v : BitVec 8) (s : State) : (s.setLatch v).latch = v := rfl
@[simp] theorem State.setLatch_fn (v : BitVec 8) (s : State) : (s.setLatch v).fn = s.fn := rfl
@[simp] theorem State.setLatch_ls0 (v : BitVec 8) (s : State) : (s.setLatch v).ls0 = s.ls0 := rfl
@[simp] theorem State.setLatch_ls1 (v : BitVec 8) (s : State) : (s.setLatch v).ls1 = s.ls1 := rfl
@[simp] theorem State.setLatch_port (v : BitVec 8) (s : State) : (s.setLatch v).port = s.port := rfl
@[simp] theorem State.setLatch_out (v : BitVec 8) (s : State) : (s.setLatch v).out = s.out := rfl
@[simp] theorem State.setLatch_inputs (v : BitVec 8) (s : State) : (s.setLatch v).inputs = s.inputs := rfl
@[simp] theorem State.setLatch_cycles (v : BitVec 8) (s : State) : (s.setLatch v).cycles = s.cycles := rfl

/-! What `setFn` does to each field. -/

@[simp] theorem State.setFn_cfg (v : Bool) (s : State) : (s.setFn v).cfg = s.cfg := rfl
@[simp] theorem State.setFn_fdSt (v : Bool) (s : State) : (s.setFn v).fdSt = s.fdSt := rfl
@[simp] theorem State.setFn_fdCnt (v : Bool) (s : State) : (s.setFn v).fdCnt = s.fdCnt := rfl
@[simp] theorem State.setFn_fdBuf (v : Bool) (s : State) : (s.setFn v).fdBuf = s.fdBuf := rfl
@[simp] theorem State.setFn_fdTref (v : Bool) (s : State) : (s.setFn v).fdTref = s.fdTref := rfl
@[simp] theorem State.setFn_fdRstreq (v : Bool) (s : State) : (s.setFn v).fdRstreq = s.fdRstreq := rfl
@[simp] theorem State.setFn_latch (v : Bool) (s : State) : (s.setFn v).latch = s.latch := rfl
@[simp] theorem State.setFn_fn (v : Bool) (s : State) : (s.setFn v).fn = v := rfl
@[simp] theorem State.setFn_ls0 (v : Bool) (s : State) : (s.setFn v).ls0 = s.ls0 := rfl
@[simp] theorem State.setFn_ls1 (v : Bool) (s : State) : (s.setFn v).ls1 = s.ls1 := rfl
@[simp] theorem State.setFn_port (v : Bool) (s : State) : (s.setFn v).port = s.port := rfl
@[simp] theorem State.setFn_out (v : Bool) (s : State) : (s.setFn v).out = s.out := rfl
@[simp] theorem State.setFn_inputs (v : Bool) (s : State) : (s.setFn v).inputs = s.inputs := rfl
@[simp] theorem State.setFn_cycles (v : Bool) (s : State) : (s.setFn v).cycles = s.cycles := rfl

/-! What `requestReset` does to each field. -/

@[simp] theorem State.requestReset_cfg (s : State) : (s.requestReset).cfg = s.cfg := rfl
@[simp] theorem State.requestReset_fdSt (s : State) : (s.requestReset).fdSt = s.fdSt := rfl
@[simp] theorem State.requestReset_fdCnt (s : State) : (s.requestReset).fdCnt = s.fdCnt := rfl
@[simp] theorem State.requestReset_fdBuf (s : State) : (s.requestReset).fdBuf = s.fdBuf := rfl
@[simp] theorem State.requestReset_fdTref (s : State) : (s.requestReset).fdTref = s.fdTref := rfl
@[simp] theorem State.requestReset_fdRstreq (s : State) : (s.requestReset).fdRstreq = true := rfl
@[simp] theorem State.requestReset_latch (s : State) : (s.requestReset).latch = s.latch := rfl
@[simp] theorem State.requestReset_fn (s : State) : (s.requestReset).fn = s.fn := rfl
@[simp] theorem State.requestReset_ls0 (s : State) : (s.requestReset).ls0 = s.ls0 := rfl
@[simp] theorem State.requestReset_ls1 (s : State) : (s.requestReset).ls1 = s.ls1 := rfl
@[simp] theorem State.requestReset_port (s : State) : (s.requestReset).port = s.port := rfl
@[simp] theorem State.requestReset_out (s : State) : (s.requestReset).out = s.out := rfl
@[simp] theorem State.requestReset_inputs (s : State) : (s.requestReset).inputs = s.inputs := rfl
@[simp] theorem State.requestReset_cycles (s : State) : (s.requestReset).cycles = s.cycles := rfl

/-! What `goIdle` does to each field. -/

@[simp] theorem State.goIdle_cfg (s : State) : (s.goIdle).cfg = s.cfg := rfl
@[simp] theorem State.goIdle_fdSt (s : State) : (s.goIdle).fdSt = idleSt s.cfg := rfl
@[simp] theorem State.goIdle_fdCnt (s : State) : (s.goIdle).fdCnt = 0 := rfl
@[simp] theorem State.goIdle_fdBuf (s : State) : (s.goIdle).fdBuf = 0 := rfl
@[simp] theorem State.goIdle_fdTref (s : State) : (s.goIdle).fdTref = s.fdTref := rfl
@[simp] theorem State.goIdle_fdRstreq (s : State) : (s.goIdle).fdRstreq = s.fdRstreq := rfl
@[simp] theorem State.goIdle_latch (s : State) : (s.goIdle).latch = s.latch := rfl
@[simp] theorem State.goIdle_fn (s : State) : (s.goIdle).fn = s.fn := rfl
@[simp] theorem State.goIdle_ls0 (s : State) : (s.goIdle).ls0 = s.ls0 := rfl
@[simp] theorem State.goIdle_ls1 (s : State) : (s.goIdle).ls1 = s.ls1 := rfl
@[simp] theorem State.goIdle_port (s : State) : (s.goIdle).port = s.port := rfl
@[simp] theorem State.goIdle_out (s : State) : (s.goIdle).out = s.out := rfl
@[simp] theorem State.goIdle_inputs (s : State) : (s.goIdle).inputs = s.inputs := rfl
@[simp] theorem State.goIdle_cycles (s : State) : (s.goIdle).cycles = s.cycles := rfl

/-! What `resetState` does to each field. -/

@[simp] theorem State.resetState_cfg (s : State) : (s.resetState).cfg = s.cfg := rfl
@[simp] theorem State.resetState_fdSt (s : State) : (s.resetState).fdSt = idleSt s.cfg := rfl
@[simp] theorem State.resetState_fdCnt (s : State) : (s.resetState).fdCnt = 0 := rfl
@[simp] theorem State.resetState_fdBuf (s : State) : (s.resetState).fdBuf = 0 := rfl
@[simp] theorem State.resetState_fdTref (s : State) : (s.resetState).fdTref = 0 := rfl
@[simp] theorem State.resetState_fdRstreq (s : State) : (s.resetState).fdRstreq = false := rfl
@[simp] theorem State.resetState_latch (s : State) : (s.resetState).latch = 0x00 := rfl
@[simp] theorem State.resetState_fn (s : State) : (s.resetState).fn = false := rfl
@[simp] theorem State.resetState_ls0 (s : State) : (s.resetState).ls0 = LineState.reset := rfl
@[simp] theorem State.resetState_ls1 (s : State) : (s.resetState).ls1 = LineState.reset := rfl
@[simp] theorem State.resetState_port (s : State) : (s.resetState).port = s.port := rfl
@[simp] theorem State.resetState_out (s : State) : (s.resetState).out = Outputs.empty := rfl
@[simp] theorem State.resetState_inputs (s : State) : (s.resetState).inputs = s.inputs := rfl
@[simp] theorem State.resetState_cycles (s : State) : (s.resetState).cycles = s.cycles := rfl

/-! What `enterAs1` does to each field. -/

@[simp] theorem State.enterAs1_cfg (s : State) : (s.enterAs1).cfg = s.cfg := rfl
@[simp] theorem State.enterAs1_fdSt (s : State) : (s.enterAs1).fdSt = .as1 := rfl
@[simp] theorem State.enterAs1_fdCnt (s : State) : (s.enterAs1).fdCnt = s.fdCnt := rfl
@[simp] theorem State.enterAs1_fdBuf (s : State) : (s.enterAs1).fdBuf = s.fdBuf := rfl
@[simp] theorem State.enterAs1_fdTref (s : State) : (s.enterAs1).fdTref = s.port.now := rfl
@[simp] theorem State.enterAs1_fdRstreq (s : State) : (s.enterAs1).fdRstreq = s.fdRstreq := rfl
@[simp] theorem State.enterAs1_latch (s : State) : (s.enterAs1).latch = s.latch := rfl
@[simp] theorem State.enterAs1_fn (s : State) : (s.enterAs1).fn = s.fn := rfl
@[simp] theorem State.enterAs1_ls0 (s : State) : (s.enterAs1).ls0 = s.ls0 := rfl
@[simp] theorem State.enterAs1_ls1 (s : State) : (s.enterAs1).ls1 = s.ls1 := rfl
@[simp] theorem State.enterAs1_port (s : State) : (s.enterAs1).port = s.port := rfl
@[simp] theorem State.enterAs1_out (s : State) : (s.enterAs1).out = s.out := rfl
@[simp] theorem State.enterAs1_inputs (s : State) : (s.enterAs1).inputs = s.inputs := rfl
@[simp] theorem State.enterAs1_cycles (s : State) : (s.enterAs1).cycles = s.cycles := rfl

/-! What `enterRx` does to each field. -/

@[simp] theorem State.enterRx_cfg (s : State) : (s.enterRx).cfg = s.cfg := rfl
@[simp] theorem State.enterRx_fdSt (s : State) : (s.enterRx).fdSt = .rx := rfl
@[simp] theorem State.enterRx_fdCnt (s : State) : (s.enterRx).fdCnt = 0 := rfl
@[simp] theorem State.enterRx_fdBuf (s : State) : (s.enterRx).fdBuf = 0 := rfl
@[simp] theorem State.enterRx_fdTref (s : State) : (s.enterRx).fdTref = s.port.now := rfl
@[simp] theorem State.enterRx_fdRstreq (s : State) : (s.enterRx).fdRstreq = s.fdRstreq := rfl
@[simp] theorem State.enterRx_latch (s : State) : (s.enterRx).latch = s.latch := rfl
@[simp] theorem State.enterRx_fn (s : State) : (s.enterRx).fn = s.fn := rfl
@[simp] theorem State.enterRx_ls0 (s : State) : (s.enterRx).ls0 = s.ls0 := rfl
@[simp] theorem State.enterRx_ls1 (s : State) : (s.enterRx).ls1 = s.ls1 := rfl
@[simp] theorem State.enterRx_port (s : State) : (s.enterRx).port = s.port := rfl
@[simp] theorem State.enterRx_out (s : State) : (s.enterRx).out = s.out := rfl
@[simp] theorem State.enterRx_inputs (s : State) : (s.enterRx).inputs = s.inputs := rfl
@[simp] theorem State.enterRx_cycles (s : State) : (s.enterRx).cycles = s.cycles := rfl

/-! What `pushBit` does to each field. -/

@[simp] theorem State.pushBit_cfg (b : BitVec 1) (s : State) : (s.pushBit b).cfg = s.cfg := rfl
@[simp] theorem State.pushBit_fdSt (b : BitVec 1) (s : State) : (s.pushBit b).fdSt = s.fdSt := rfl
@[simp] theorem State.pushBit_fdCnt (b : BitVec 1) (s : State) : (s.pushBit b).fdCnt = s.fdCnt + 1 := rfl
@[simp] theorem State.pushBit_fdBuf (b : BitVec 1) (s : State) :
    (s.pushBit b).fdBuf = s.fdBuf * 2 + b.setWidth 7 := rfl
@[simp] theorem State.pushBit_fdTref (b : BitVec 1) (s : State) : (s.pushBit b).fdTref = s.port.now := rfl
@[simp] theorem State.pushBit_fdRstreq (b : BitVec 1) (s : State) : (s.pushBit b).fdRstreq = s.fdRstreq := rfl
@[simp] theorem State.pushBit_latch (b : BitVec 1) (s : State) : (s.pushBit b).latch = s.latch := rfl
@[simp] theorem State.pushBit_fn (b : BitVec 1) (s : State) : (s.pushBit b).fn = s.fn := rfl
@[simp] theorem State.pushBit_ls0 (b : BitVec 1) (s : State) : (s.pushBit b).ls0 = s.ls0 := rfl
@[simp] theorem State.pushBit_ls1 (b : BitVec 1) (s : State) : (s.pushBit b).ls1 = s.ls1 := rfl
@[simp] theorem State.pushBit_port (b : BitVec 1) (s : State) : (s.pushBit b).port = s.port := rfl
@[simp] theorem State.pushBit_out (b : BitVec 1) (s : State) : (s.pushBit b).out = s.out := rfl
@[simp] theorem State.pushBit_inputs (b : BitVec 1) (s : State) : (s.pushBit b).inputs = s.inputs := rfl
@[simp] theorem State.pushBit_cycles (b : BitVec 1) (s : State) : (s.pushBit b).cycles = s.cycles := rfl

/-! What `endFrame` does to each field. -/

@[simp] theorem State.endFrame_cfg (b : BitVec 1) (s : State) : (s.endFrame b).cfg = s.cfg := rfl
@[simp] theorem State.endFrame_fdSt (b : BitVec 1) (s : State) : (s.endFrame b).fdSt = idleSt s.cfg := rfl
@[simp] theorem State.endFrame_fdCnt (b : BitVec 1) (s : State) : (s.endFrame b).fdCnt = 0 := rfl
@[simp] theorem State.endFrame_fdBuf (b : BitVec 1) (s : State) : (s.endFrame b).fdBuf = 0 := rfl
@[simp] theorem State.endFrame_fdTref (b : BitVec 1) (s : State) : (s.endFrame b).fdTref = s.port.now := rfl
@[simp] theorem State.endFrame_fdRstreq (b : BitVec 1) (s : State) : (s.endFrame b).fdRstreq = s.fdRstreq := rfl
@[simp] theorem State.endFrame_latch (b : BitVec 1) (s : State) : (s.endFrame b).latch = s.latch := rfl
@[simp] theorem State.endFrame_fn (b : BitVec 1) (s : State) : (s.endFrame b).fn = s.fn := rfl
@[simp] theorem State.endFrame_ls0 (b : BitVec 1) (s : State) : (s.endFrame b).ls0 = s.ls0 := rfl
@[simp] theorem State.endFrame_ls1 (b : BitVec 1) (s : State) : (s.endFrame b).ls1 = s.ls1 := rfl
@[simp] theorem State.endFrame_port (b : BitVec 1) (s : State) : (s.endFrame b).port = s.port := rfl
@[simp] theorem State.endFrame_out (b : BitVec 1) (s : State) :
    (s.endFrame b).out = { s.out with byteV := true, byteO := s.frameByte b } := rfl
@[simp] theorem State.endFrame_inputs (b : BitVec 1) (s : State) : (s.endFrame b).inputs = s.inputs := rfl
@[simp] theorem State.endFrame_cycles (b : BitVec 1) (s : State) : (s.endFrame b).cycles = s.cycles := rfl

/-! What `sample` does to each field. -/

@[simp] theorem State.sample_cfg (s : State) : (s.sample).cfg = s.cfg := rfl
@[simp] theorem State.sample_fdSt (s : State) : (s.sample).fdSt = s.fdSt := rfl
@[simp] theorem State.sample_fdCnt (s : State) : (s.sample).fdCnt = s.fdCnt := rfl
@[simp] theorem State.sample_fdBuf (s : State) : (s.sample).fdBuf = s.fdBuf := rfl
@[simp] theorem State.sample_fdTref (s : State) : (s.sample).fdTref = s.fdTref := rfl
@[simp] theorem State.sample_fdRstreq (s : State) : (s.sample).fdRstreq = s.fdRstreq := rfl
@[simp] theorem State.sample_latch (s : State) : (s.sample).latch = s.latch := rfl
@[simp] theorem State.sample_fn (s : State) : (s.sample).fn = s.fn := rfl
@[simp] theorem State.sample_ls0 (s : State) : (s.sample).ls0 = s.ls0 := rfl
@[simp] theorem State.sample_ls1 (s : State) : (s.sample).ls1 = s.ls1 := rfl
@[simp] theorem State.sample_port (s : State) :
    (s.sample).port = { s.nextInput with now := s.nextInput.now % 2 ^ s.cfg.w } := rfl
@[simp] theorem State.sample_out (s : State) : (s.sample).out = s.out := rfl
@[simp] theorem State.sample_inputs (s : State) : (s.sample).inputs = s.inputs.tail := rfl
@[simp] theorem State.sample_cycles (s : State) : (s.sample).cycles = s.cycles + 1 := rfl

/-! What `lsWrite` does to each field. -/

@[simp] theorem State.lsWrite_cfg (s : State) : (s.lsWrite).cfg = s.cfg := rfl
@[simp] theorem State.lsWrite_fdSt (s : State) : (s.lsWrite).fdSt = s.fdSt := rfl
@[simp] theorem State.lsWrite_fdCnt (s : State) : (s.lsWrite).fdCnt = s.fdCnt := rfl
@[simp] theorem State.lsWrite_fdBuf (s : State) : (s.lsWrite).fdBuf = s.fdBuf := rfl
@[simp] theorem State.lsWrite_fdTref (s : State) : (s.lsWrite).fdTref = s.fdTref := rfl
@[simp] theorem State.lsWrite_fdRstreq (s : State) : (s.lsWrite).fdRstreq = s.fdRstreq := rfl
@[simp] theorem State.lsWrite_latch (s : State) : (s.lsWrite).latch = s.latch := rfl
@[simp] theorem State.lsWrite_fn (s : State) : (s.lsWrite).fn = s.fn := rfl
@[simp] theorem State.lsWrite_ls0 (s : State) : (s.lsWrite).ls0 = s.sampleZero.1 := rfl
@[simp] theorem State.lsWrite_ls1 (s : State) : (s.lsWrite).ls1 = s.sampleOne.1 := rfl
@[simp] theorem State.lsWrite_port (s : State) : (s.lsWrite).port = s.port := rfl
@[simp] theorem State.lsWrite_out (s : State) : (s.lsWrite).out = s.out := rfl
@[simp] theorem State.lsWrite_inputs (s : State) : (s.lsWrite).inputs = s.inputs := rfl
@[simp] theorem State.lsWrite_cycles (s : State) : (s.lsWrite).cycles = s.cycles := rfl

end Sys2Proof.Machine
end

