-- ==== Sys2Proof/Laws/Ops.lean ====
section
/-! SUPPORT. One lemma per shared operation: elapsed time, the outputs, the two phases before the event, the Line
Sampler's line step. Later proofs cite these and do not unfold the operations. -/

namespace Sys2Proof.Machine

/-! Elapsed time (00_scope.md R8). -/

theorem elapsed_lt (w : Nat) (now t0 : Nat) : elapsed w now t0 < 2 ^ w := Nat.mod_lt _ (Nat.two_pow_pos w)

theorem elapsed_self (w : Nat) (t : Nat) (h : t < 2 ^ w) : elapsed w t t = 0 := by
  simp [elapsed, Nat.mod_eq_of_lt h, Nat.add_sub_cancel' h.le]

/-- The time `d` ticks after `t0` is at elapsed time `d`, whether or not the count wraps in between. -/
theorem elapsed_add (w : Nat) (t0 d : Nat) (hd : d < 2 ^ w) : elapsed w ((t0 + d) % 2 ^ w) t0 = d := by
  have hm := Nat.mod_lt t0 (Nat.two_pow_pos w)
  have h0 := Nat.div_add_mod t0 (2 ^ w)
  unfold elapsed
  rw [Nat.mod_add_mod]
  have : t0 + d + (2 ^ w - t0 % 2 ^ w) = d + 2 ^ w * (t0 / 2 ^ w + 1) := by
    rw [Nat.mul_add]; omega
  rw [this, Nat.add_mul_mod_self_left, Nat.mod_eq_of_lt hd]

/-- Without a wrap the elapsed time is the difference. -/
theorem elapsed_of_le (w : Nat) (now t0 : Nat) (h : t0 ≤ now) (hn : now < 2 ^ w) :
    elapsed w now t0 = now - t0 := by
  have := elapsed_add w t0 (now - t0) (by omega)
  rwa [Nat.add_sub_cancel' h, Nat.mod_eq_of_lt hn] at this

theorem not_expired_self (w : Nat) (t : Nat) (n : Nat) (h : t < 2 ^ w) : expired w t t n = false := by
  simp [expired, elapsed_self w t h]

/-! The outputs of two cycles. -/

@[simp] theorem Outputs.empty_append (a : Outputs) : Outputs.empty.append a = a := by
  cases a; simp [Outputs.append, Outputs.empty]

/-! The reset-request and timeout phases (42_frame_decoder.md R141 to R144). -/

/-- What the reset-request phase can do. -/
theorem fdResetPhase_cases (s : State) :
    s.fdRstreq = false ∧ s.fdResetPhase = s
      ∨ s.fdRstreq = true ∧ s.fdResetPhase = { s.goIdle with fdRstreq := false } := by
  cases h : s.fdRstreq <;> simp [State.fdResetPhase, h]

/-- What the timeout phase can do. -/
theorem fdTimeoutPhase_cases (s : State) :
    s.fdTimeoutPhase = s
      ∨ (s.fdSt = .as1 ∧ s.cfg.tStart < elapsed s.cfg.w s.port.now s.fdTref
          ∧ s.fdTimeoutPhase = { s with fdSt := .as0 }.emitDiag .startTimeout)
      ∨ (s.cfg.startEn = true ∧ s.fdSt = .rx ∧ s.cfg.tIdle < elapsed s.cfg.w s.port.now s.fdTref
          ∧ s.fdTimeoutPhase = (s.emitDiag (.frameTimeout (s.fdCnt.setWidth 8))).goIdle)
      ∨ (s.cfg.startEn = false ∧ s.fdCnt ≠ 0 ∧ s.cfg.tIdle < elapsed s.cfg.w s.port.now s.fdTref
          ∧ s.fdTimeoutPhase
            = { s.emitDiag (.frameTimeout (s.fdCnt.setWidth 8)) with fdCnt := 0, fdBuf := 0 }) := by
  unfold State.fdTimeoutPhase
  split
  · next h => exact .inr (.inl ⟨h.1, by simpa [expired] using h.2, rfl⟩)
  · split
    · next h => exact .inr (.inr (.inl ⟨h.1, h.2.1, by simpa [expired] using h.2.2, rfl⟩))
    · split
      · next h => exact .inr (.inr (.inr ⟨h.1, h.2.1, by simpa [expired] using h.2.2, rfl⟩))
      · exact .inl rfl

/-- The timeout phase does nothing when no timeout has expired. -/
theorem fdTimeoutPhase_of_not_expired (s : State)
    (h1 : s.fdSt = .as1 → elapsed s.cfg.w s.port.now s.fdTref ≤ s.cfg.tStart)
    (h2 : s.fdSt = .rx ∨ s.fdCnt ≠ 0 → elapsed s.cfg.w s.port.now s.fdTref ≤ s.cfg.tIdle) :
    s.fdTimeoutPhase = s := by
  rcases fdTimeoutPhase_cases s with h | ⟨a, b, -⟩ | ⟨-, a, b, -⟩ | ⟨-, a, b, -⟩
  · exact h
  · exact absurd (h1 a) (by omega)
  · exact absurd (h2 (.inl a)) (by omega)
  · exact absurd (h2 (.inr a)) (by omega)

/-- The fields no phase before the event writes. -/
structure SameButDecoder (s t : State) : Prop where
  cfg    : t.cfg = s.cfg
  fdTref : t.fdTref = s.fdTref
  latch  : t.latch = s.latch
  fn     : t.fn = s.fn
  ls0    : t.ls0 = s.ls0
  ls1    : t.ls1 = s.ls1
  port   : t.port = s.port
  inputs : t.inputs = s.inputs
  cycles : t.cycles = s.cycles

theorem SameButDecoder.trans {s t u : State} (h : SameButDecoder s t) (k : SameButDecoder t u) : SameButDecoder s u :=
  ⟨k.cfg.trans h.cfg, k.fdTref.trans h.fdTref, k.latch.trans h.latch, k.fn.trans h.fn, k.ls0.trans h.ls0,
    k.ls1.trans h.ls1, k.port.trans h.port, k.inputs.trans h.inputs, k.cycles.trans h.cycles⟩

theorem fdResetPhase_same (s : State) : SameButDecoder s s.fdResetPhase := by
  rcases fdResetPhase_cases s with ⟨-, h⟩ | ⟨-, h⟩ <;> rw [h] <;> exact ⟨rfl, rfl, rfl, rfl, rfl, rfl, rfl, rfl, rfl⟩

theorem fdTimeoutPhase_same (s : State) : SameButDecoder s s.fdTimeoutPhase := by
  rcases fdTimeoutPhase_cases s with h | ⟨-, -, h⟩ | ⟨-, -, -, h⟩ | ⟨-, -, -, h⟩ <;> rw [h] <;>
    exact ⟨rfl, rfl, rfl, rfl, rfl, rfl, rfl, rfl, rfl⟩

theorem prepare_same (s : State) : SameButDecoder s s.prepare :=
  SameButDecoder.trans (t := s.clearOut) ⟨rfl, rfl, rfl, rfl, rfl, rfl, rfl, rfl, rfl⟩
    ((fdResetPhase_same _).trans (fdTimeoutPhase_same _))

/-- After the phases no reset request is pending. -/
theorem prepare_fdRstreq (s : State) : s.prepare.fdRstreq = false := by
  have h : s.clearOut.fdResetPhase.fdRstreq = false := by
    rcases fdResetPhase_cases s.clearOut with ⟨h, k⟩ | ⟨-, k⟩ <;> rw [k]
    exact h
  show (s.clearOut.fdResetPhase.fdTimeoutPhase).fdRstreq = false
  rcases fdTimeoutPhase_cases s.clearOut.fdResetPhase with k | ⟨-, -, k⟩ | ⟨-, -, -, k⟩ | ⟨-, -, -, k⟩ <;> rw [k] <;>
    exact h

/-- After the phases no command and no byte has been emitted, and no unknown byte reported. -/
theorem prepare_out (s : State) :
    s.prepare.out.cmds = [] ∧ s.prepare.out.byteV = false ∧ s.prepare.out.byteO = 0
      ∧ ∀ b, s.prepare.out.diag ≠ .unknown b := by
  have h : s.clearOut.fdResetPhase.out = Outputs.empty := by
    rcases fdResetPhase_cases s.clearOut with ⟨-, k⟩ | ⟨-, k⟩ <;> rw [k] <;> rfl
  show (s.clearOut.fdResetPhase.fdTimeoutPhase).out.cmds = [] ∧ _
  unfold State.prepare
  rcases fdTimeoutPhase_cases s.clearOut.fdResetPhase with k | ⟨-, -, k⟩ | ⟨-, -, -, k⟩ | ⟨-, -, -, k⟩ <;> rw [k] <;>
    simp [h, Outputs.empty]

/-! The Line Sampler (41_line_sampler.md R120). -/

/-- What one sample of one line can do: the raw level changed; a stable level was accepted; nothing. -/
theorem lineSample_cases (c : Config) (now : Nat) (level : Bool) (l : LineState) :
    (level ≠ l.raw ∧ l.sample c now level = ({ l with raw := level, tchg := now }, false))
      ∨ (level = l.raw ∧ level ≠ l.db ∧ c.tDb ≤ elapsed c.w now l.tchg
          ∧ l.sample c now level = ({ l with db := level }, !level))
      ∨ (level = l.raw ∧ (level = l.db ∨ elapsed c.w now l.tchg < c.tDb) ∧ l.sample c now level = (l, false)) := by
  unfold LineState.sample
  split
  · next h => exact .inl ⟨h, rfl⟩
  · next h =>
    have h := not_not.mp h
    split
    · next k => exact .inr (.inl ⟨h, k.1, k.2, rfl⟩)
    · next k =>
      refine .inr (.inr ⟨h, ?_, rfl⟩)
      by_cases e : level = l.db
      · exact .inl e
      · exact .inr (by by_contra h2; exact k ⟨e, by omega⟩)

end Sys2Proof.Machine
end

