-- ==== Sys2Proof/Laws/Dispatch.lean ====
section
/-! SUPPORT. One lemma per meaning's shape: what the byte meanings and the events can do. Later proofs cite these and
do not unfold the meanings. -/

namespace Sys2Proof.Machine

/-- `dispatch(b)` is `exec` of the byte's instruction (spec/43_dispatch_control.md R170). -/
theorem dispatch_eq_exec (b : Byte) (s : State) : dispatch b s = exec (decodePByte s.cfg b) s := by
  unfold dispatch decodePByte
  cases classOf s.cfg b <;> rfl

/-- What a protocol byte's meaning may write: the latch, the layer, the reset request and the outputs. -/
structure SameButDispatcher (s t : State) : Prop where
  cfg    : t.cfg = s.cfg
  fdSt   : t.fdSt = s.fdSt
  fdCnt  : t.fdCnt = s.fdCnt
  fdBuf  : t.fdBuf = s.fdBuf
  fdTref : t.fdTref = s.fdTref
  ls0    : t.ls0 = s.ls0
  ls1    : t.ls1 = s.ls1
  port   : t.port = s.port
  inputs : t.inputs = s.inputs
  cycles : t.cycles = s.cycles
  byteV  : t.out.byteV = s.out.byteV
  byteO  : t.out.byteO = s.out.byteO

theorem SameButDispatcher.trans {s t u : State} (h : SameButDispatcher s t) (k : SameButDispatcher t u) :
    SameButDispatcher s u :=
  ⟨k.cfg.trans h.cfg, k.fdSt.trans h.fdSt, k.fdCnt.trans h.fdCnt, k.fdBuf.trans h.fdBuf, k.fdTref.trans h.fdTref,
    k.ls0.trans h.ls0, k.ls1.trans h.ls1, k.port.trans h.port, k.inputs.trans h.inputs, k.cycles.trans h.cycles,
    k.byteV.trans h.byteV, k.byteO.trans h.byteO⟩

theorem emitCmd_same (c : Cmd) (s : State) : SameButDispatcher s (s.emitCmd c) :=
  ⟨rfl, rfl, rfl, rfl, rfl, rfl, rfl, rfl, rfl, rfl, rfl, rfl⟩
theorem unknownByte_same (b : Byte) (s : State) : SameButDispatcher s (s.unknownByte b) :=
  ⟨rfl, rfl, rfl, rfl, rfl, rfl, rfl, rfl, rfl, rfl, rfl, rfl⟩
theorem setLatch_same (v : BitVec 8) (s : State) : SameButDispatcher s (s.setLatch v) :=
  ⟨rfl, rfl, rfl, rfl, rfl, rfl, rfl, rfl, rfl, rfl, rfl, rfl⟩
theorem setFn_same (v : Bool) (s : State) : SameButDispatcher s (s.setFn v) :=
  ⟨rfl, rfl, rfl, rfl, rfl, rfl, rfl, rfl, rfl, rfl, rfl, rfl⟩
theorem requestReset_same (s : State) : SameButDispatcher s s.requestReset :=
  ⟨rfl, rfl, rfl, rfl, rfl, rfl, rfl, rfl, rfl, rfl, rfl, rfl⟩
theorem tap_same (k : Key) (s : State) : SameButDispatcher s (s.tap k) :=
  (emitCmd_same _ s).trans (emitCmd_same _ _)
theorem wrapTap_same (m : ModIdx) (k : Key) (s : State) : SameButDispatcher s (s.wrapTap m k) :=
  ((emitCmd_same _ s).trans (tap_same k _)).trans (emitCmd_same _ _)

/-! Each byte meaning completes, and writes only the dispatcher's fields and the outputs. -/

theorem execFnon_next (s : State) : ∃ t, execFnon s = .next t ∧ SameButDispatcher s t := by
  refine ⟨_, rfl, ?_⟩
  split
  · exact setFn_same _ s
  · exact unknownByte_same _ s
theorem execFnoff_next (s : State) : ∃ t, execFnoff s = .next t ∧ SameButDispatcher s t := by
  refine ⟨_, rfl, ?_⟩
  split
  · exact setFn_same _ s
  · exact unknownByte_same _ s
theorem execEclr_next (s : State) : ∃ t, execEclr s = .next t ∧ SameButDispatcher s t :=
  ⟨_, rfl, ((emitCmd_same _ s).trans (setLatch_same _ _)).trans (requestReset_same _)⟩
theorem execModp_next (k : ModIdx) (s : State) : ∃ t, execModp k s = .next t ∧ SameButDispatcher s t := by
  unfold execModp
  split
  · exact ⟨_, rfl, (emitCmd_same _ s).trans (setLatch_same _ _)⟩
  · split <;> exact ⟨_, rfl, (emitCmd_same _ s).trans (setLatch_same _ _)⟩
theorem execModr_next (k : ModIdx) (s : State) : ∃ t, execModr k s = .next t ∧ SameButDispatcher s t := by
  unfold execModr
  split
  · exact ⟨_, rfl, (emitCmd_same _ s).trans (setLatch_same _ _)⟩
  · exact ⟨_, rfl, unknownByte_same _ s⟩
theorem execNav_next (n : Fin 14) (s : State) : ∃ t, execNav n s = .next t ∧ SameButDispatcher s t :=
  ⟨_, rfl, tap_same _ s⟩
theorem execFkey_next (n : Fin 12) (s : State) : ∃ t, execFkey n s = .next t ∧ SameButDispatcher s t := by
  unfold execFkey
  split
  · exact ⟨_, rfl, tap_same _ s⟩
  · exact ⟨_, rfl, wrapTap_same _ _ s⟩
theorem execCaps_next (s : State) : ∃ t, execCaps s = .next t ∧ SameButDispatcher s t := ⟨_, rfl, tap_same _ s⟩
theorem execCtrlchr_next (j : Fin 26) (s : State) : ∃ t, execCtrlchr j s = .next t ∧ SameButDispatcher s t :=
  ⟨_, rfl, wrapTap_same _ _ s⟩
theorem execPrint_next (i : Fin 95) (s : State) : ∃ t, execPrint i s = .next t ∧ SameButDispatcher s t := by
  unfold execPrint
  split
  · exact ⟨_, rfl, emitCmd_same _ s⟩
  · refine ⟨_, rfl, ?_⟩
    split
    · exact wrapTap_same _ _ s
    · exact tap_same _ s
theorem execUnk_next (u : Byte) (s : State) : ∃ t, execUnk u s = .next t ∧ SameButDispatcher s t :=
  ⟨_, rfl, unknownByte_same _ s⟩

/-- Every byte completes, and writes only the dispatcher's fields and the outputs. -/
theorem dispatch_next (b : Byte) (s : State) : ∃ t, dispatch b s = .next t ∧ SameButDispatcher s t := by
  unfold dispatch
  cases classOf s.cfg b
  · exact execCtrlchr_next _ s
  · exact execPrint_next _ s
  · exact execModp_next _ s
  · exact execModr_next _ s
  · exact execNav_next _ s
  · exact execEclr_next s
  · exact execFkey_next _ s
  · exact execCaps_next s
  · exact execFnon_next s
  · exact execFnoff_next s
  · exact execUnk_next _ s

/-! The events, by decoder state. -/

theorem bit_cases (sym : BitVec 1) : sym = 0 ∨ sym = 1 := by
  revert sym; decide

theorem execEvZero_waiting (s : State) (h : s.fdSt ≠ .rx) : exec .evZero s = .next s.enterAs1 := by
  rcases k : s.fdSt with _ | _ | _ <;> simp_all [exec, execEvZero]

theorem execEvOne_as0 (s : State) (h : s.fdSt = .as0) : exec .evOne s = .next s := by simp [exec, execEvOne, h]

theorem execEvOne_as1 (s : State) (h : s.fdSt = .as1) : exec .evOne s = .next s.enterRx := by
  simp [exec, execEvOne, h]

theorem execEdge_rx (sym : BitVec 1) (s : State) (h : s.fdSt = .rx) :
    exec (if sym = 0 then .evZero else .evOne) s = dataBit sym s := by
  rcases bit_cases sym with rfl | rfl <;> simp [exec, execEvZero, execEvOne, h]

theorem dataBit_full (sym : BitVec 1) (s : State) (h : s.fdCnt = 7) :
    dataBit sym s = dispatch (s.frameByte sym) (s.endFrame sym) := if_pos h

theorem dataBit_room (sym : BitVec 1) (s : State) (h : s.fdCnt ≠ 7) : dataBit sym s = .next (s.pushBit sym) := if_neg h

/-- What an edge can do (42_frame_decoder.md R153): nothing, AS1, RX, a bit more, a byte. -/
theorem execEdge_cases (sym : BitVec 1) (s : State) :
    (s.fdSt ≠ .rx ∧ exec (if sym = 0 then .evZero else .evOne) s = .next s)
      ∨ (s.fdSt ≠ .rx ∧ exec (if sym = 0 then .evZero else .evOne) s = .next s.enterAs1)
      ∨ (s.fdSt = .as1 ∧ exec (if sym = 0 then .evZero else .evOne) s = .next s.enterRx)
      ∨ (s.fdSt = .rx ∧ s.fdCnt ≠ 7 ∧ exec (if sym = 0 then .evZero else .evOne) s = .next (s.pushBit sym))
      ∨ (s.fdSt = .rx ∧ s.fdCnt = 7
          ∧ exec (if sym = 0 then .evZero else .evOne) s = dispatch (s.frameByte sym) (s.endFrame sym)) := by
  by_cases r : s.fdSt = .rx
  · rw [execEdge_rx sym s r]
    by_cases k : s.fdCnt = 7
    · exact .inr (.inr (.inr (.inr ⟨r, k, dataBit_full sym s k⟩)))
    · exact .inr (.inr (.inr (.inl ⟨r, k, dataBit_room sym s k⟩)))
  · rcases bit_cases sym with rfl | rfl
    · exact .inr (.inl ⟨r, execEvZero_waiting s r⟩)
    · rcases h : s.fdSt with _ | _ | _
      · exact .inl ⟨nofun, execEvOne_as0 s h⟩
      · exact .inr (.inr (.inl ⟨rfl, execEvOne_as1 s h⟩))
      · exact absurd h r

/-- The byte a data bit completes (R151): the buffer's seven bits and then the new one. -/
theorem frameByte_toNat (sym : BitVec 1) (s : State) : (s.frameByte sym).toNat = 2 * s.fdBuf.toNat + sym.toNat := by
  have h1 := s.fdBuf.isLt
  have h2 := sym.isLt
  simp only [State.frameByte, BitVec.toNat_add, BitVec.toNat_mul, BitVec.toNat_setWidth, BitVec.ofNat_eq_ofNat,
    BitVec.toNat_ofNat]
  omega

/-- The buffer with one more bit (R150), when it has room: no bit is lost. -/
theorem pushBit_fdBuf_toNat (sym : BitVec 1) (s : State) (h : s.fdBuf.toNat < 2 ^ s.fdCnt.toNat)
    (k : s.fdCnt.toNat < 7) : (s.pushBit sym).fdBuf.toNat = 2 * s.fdBuf.toNat + sym.toNat := by
  have h2 := sym.isLt
  have h3 : 2 ^ s.fdCnt.toNat ≤ 2 ^ 6 := Nat.pow_le_pow_right (by decide) (by omega)
  simp only [State.pushBit_fdBuf, BitVec.toNat_add, BitVec.toNat_mul, BitVec.toNat_setWidth, BitVec.ofNat_eq_ofNat,
    BitVec.toNat_ofNat]
  omega

/-- The count after one more bit. -/
theorem pushBit_fdCnt_toNat (sym : BitVec 1) (s : State) (k : s.fdCnt.toNat < 7) :
    (s.pushBit sym).fdCnt.toNat = s.fdCnt.toNat + 1 := by
  simp only [State.pushBit_fdCnt, BitVec.toNat_add, BitVec.ofNat_eq_ofNat, BitVec.toNat_ofNat]
  omega

end Sys2Proof.Machine
end

