-- ==== Sys2Proof/Laws/PerInstr.lean ====
section
/-! SUPPORT. Per instruction: decoding the word of a well-formed instruction gives it back, under every configuration
(spec/30_encoding.md R71, R77, R78, R84). -/

namespace Sys2Proof.Laws.WordRoundTrip

/-- Where `i` is well-formed, its word decodes to it. -/
def Statement (i : Instr) : Prop := ∀ c : Config, i.wf c = true → decode c (encode i) = i

/-- It is enough to check the four pairs of flags. -/
theorem of_flags {i : Instr}
    (h1 : i.wf (.withFlags true .pressRelease) = true → decode (.withFlags true .pressRelease) (encode i) = i)
    (h2 : i.wf (.withFlags true .toggle) = true → decode (.withFlags true .toggle) (encode i) = i)
    (h3 : i.wf (.withFlags false .pressRelease) = true → decode (.withFlags false .pressRelease) (encode i) = i)
    (h4 : i.wf (.withFlags false .toggle) = true → decode (.withFlags false .toggle) (encode i) = i) :
    Statement i :=
  fun c => forall_flags (p := fun c => i.wf c = true → decode c (encode i) = i)
    (fun c => by rw [wf_withFlags c]; cases h : encode i <;> rfl) h1 h2 h3 h4 c

theorem evNone : Statement .evNone := fun _ _ => rfl
theorem evZero : Statement .evZero := fun _ _ => rfl
theorem evOne : Statement .evOne := fun _ _ => rfl
theorem evReserved : Statement .evReserved := fun _ _ => rfl
theorem ctrlchr (j : Fin 26) : Statement (.ctrlchr j) := by
  apply of_flags <;> revert j <;> decide
theorem print (i : Fin 95) : Statement (.print i) := by
  apply of_flags <;> revert i <;> decide
theorem modp (k : ModIdx) : Statement (.modp k) := by
  apply of_flags <;> revert k <;> decide
theorem modr (k : ModIdx) : Statement (.modr k) := by
  apply of_flags <;> revert k <;> decide
theorem nav (n : Fin 14) : Statement (.nav n) := by
  apply of_flags <;> revert n <;> decide
theorem eclr : Statement .eclr := by
  apply of_flags <;> decide
theorem fkey (n : Fin 12) : Statement (.fkey n) := by
  apply of_flags <;> revert n <;> decide
theorem caps : Statement .caps := by
  apply of_flags <;> decide
theorem fnon : Statement .fnon := by
  apply of_flags <;> decide
theorem fnoff : Statement .fnoff := by
  apply of_flags <;> decide
theorem unk (u : Byte) : Statement (.unk u) := by
  apply of_flags <;> revert u <;> decide

end Sys2Proof.Laws.WordRoundTrip
end

