-- ==== Sys2Proof/Laws/Step.lean ====
section
/-! SUPPORT. What a step is in each interface mode (spec/40_cycle.md R100 to R103). -/

namespace Sys2Proof.Machine

@[simp] theorem cfg_valid_sample (s : State) : s.sample.cfg.valid = s.cfg.valid := rfl

/-- A step under an illegal configuration. -/
theorem step_illegal (s : State) (h : s.cfg.valid = false) : step s = .refused .illegalConfig := by
  simp [step, stepWith, h]

/-- A step in EDGE mode is one cycle. -/
theorem step_edge (s : State) (h : s.cfg.valid = true) (m : s.cfg.ifMode = .edge) :
    step s = cycleWith exec (decodeEvent s.sample.port.ev) s.sample := by
  simp [step, stepWith, h, m]

/-- A step in RAW mode is `raw_step`. -/
theorem step_raw (s : State) (h : s.cfg.valid = true) (m : s.cfg.ifMode = .raw) :
    step s = rawStepWith exec s.sample := by
  simp [step, stepWith, h, m]

/-- A cycle without reset is its phases and then its event. -/
theorem cycleWith_run (run : Instr → State → Result) (i : Instr) (s : State) (h : s.port.rst = false) :
    cycleWith run i s = run i s.prepare := by
  simp [cycleWith, h]

/-- A cycle with reset. -/
theorem cycleWith_reset (run : Instr → State → Result) (i : Instr) (s : State) (h : s.port.rst = true) :
    cycleWith run i s = .next s.resetState := by
  simp [cycleWith, h]

/-- The cycles a RAW sample asks for: one of four lists (41_line_sampler.md R120, R123). -/
theorem rawCycles_cases (s : State) :
    (s.sampleZero.2 = false ∧ s.sampleOne.2 = false ∧ rawCycles s.lsEvents = [.evNone])
      ∨ (s.sampleZero.2 = true ∧ s.sampleOne.2 = false ∧ rawCycles s.lsEvents = [.evZero])
      ∨ (s.sampleZero.2 = false ∧ s.sampleOne.2 = true ∧ rawCycles s.lsEvents = [.evOne])
      ∨ (s.sampleZero.2 = true ∧ s.sampleOne.2 = true ∧ rawCycles s.lsEvents = [.evZero, .evOne]) := by
  cases h0 : s.sampleZero.2 <;> cases h1 : s.sampleOne.2 <;> simp [rawCycles, State.lsEvents, h0, h1]

/-- One cycle alone keeps its own outputs. -/
theorem cyclesWith_one (run : Instr → State → Result) (i : Instr) (s : State) :
    cyclesWith run [i] Outputs.empty s = cycleWith run i s := by
  simp only [cyclesWith]
  cases cycleWith run i s <;> simp

/-- Two cycles: the second runs from the first, and the outputs are joined. -/
theorem cyclesWith_two (run : Instr → State → Result) (i j : Instr) (s t : State)
    (h : cycleWith run i s = .next t) :
    cyclesWith run [i, j] Outputs.empty s
      = match cycleWith run j t with
        | .next u => .next { u with out := t.out.append u.out }
        | .fault f => .fault f
        | .refused r => .refused r := by
  cases hj : cycleWith run j t <;> simp [cyclesWith, h, hj]

end Sys2Proof.Machine
end

