-- ==== Sys2Proof/Tests/Slice0.lean ====
section
/-! SUPPORT. Tests by `decide`, their expected results from the rules and the vectors of spec/95_test_vectors.md (the
vector is named at each), and for every obligation with hypotheses a witness that meets them, clause by clause. -/

namespace Sys2Proof.Tests

open Sys2Proof
open Sys2Proof.Machine

/-! ## Small states and views -/

/-- The decoder at `f` with `cnt` bits `buf` and reference time `tref`, all else as after reset, about to sample `i`. -/
def at' (f : FdState) (cnt : BitVec 3) (buf : BitVec 7) (tref : Nat) (i : Input) : State :=
  { State.reset with fdSt := f, fdCnt := cnt, fdBuf := buf, fdTref := tref, inputs := [i] }

/-- The same under the no-start-symbol variant. -/
def bare (cnt : BitVec 3) (buf : BitVec 7) (tref : Nat) (i : Input) : State :=
  { at' .rx cnt buf tref i with cfg := { Config.default with startEn := false } }

/-- RAW mode: the two lines' sampler states, about to sample `i`. -/
def lines (l0 l1 : LineState) (i : Input) : State :=
  { State.reset with cfg := { Config.default with ifMode := .raw }, ls0 := l0, ls1 := l1, inputs := [i] }

/-- A line whose fall has been seen at time 0 and is not yet accepted. -/
def falling : LineState := { db := true, raw := false, tchg := 0 }

/-- The dispatcher's state, all else as after reset. -/
def held (latch : BitVec 8) (fn : Bool) : State := { State.reset with latch := latch, fn := fn }

/-- Reset under other parameters. -/
def under (c : Config) : State := { State.reset with cfg := c }

/-- What `decoder` shows: state, bit count, bits, reference time, diagnostic, whether a byte was formed, the byte. -/
structure DecoderView where
  st    : FdState
  cnt   : Nat
  buf   : Nat
  tref  : Nat
  diag  : Diag
  byteV : Bool
  byteO : Byte
  deriving DecidableEq, Repr

/-- What `dispatched` shows: commands, diagnostic, latch, layer, reset request. -/
structure DispatcherView where
  cmds  : List Cmd
  diag  : Diag
  latch : BitVec 8
  fn    : Bool
  req   : Bool
  deriving DecidableEq, Repr

/-- Decoder, diagnostic and byte after an outcome. -/
def decoder : Result → Option DecoderView
  | .next t => some ⟨t.fdSt, t.fdCnt.toNat, t.fdBuf.toNat, t.fdTref, t.out.diag, t.out.byteV, t.out.byteO⟩
  | _ => none

/-- Commands, diagnostic, latch, layer and reset request after an outcome. -/
def dispatched : Result → Option DispatcherView
  | .next t => some ⟨t.out.cmds, t.out.diag, t.latch, t.fn, t.fdRstreq⟩
  | _ => none

/-- The two lines after an outcome. -/
def sampled : Result → Option (LineState × LineState)
  | .next t => some (t.ls0, t.ls1)
  | _ => none

/-- Whether an outcome is a next state. -/
def goesOn : Result → Bool
  | .next _ => true
  | _ => false

/-- Why an outcome is refused. -/
def reason : Result → Option Refusal
  | .refused r => some r
  | _ => none

def toggling : Config := { Config.default with modMode := .toggle }
def flat : Config := { Config.default with fnEn := false }

/-! ## Well-formedness: each check refuses an ill-formed instruction -/

theorem test_wf_layer_bytes_need_fn_en :
    Instr.wf flat .fnon = false ∧ Instr.wf flat .fnoff = false ∧ Instr.wf Config.default .fnon = true := by decide
theorem test_wf_release_needs_its_discipline :
    Instr.wf toggling (.modr 0) = false ∧ Instr.wf Config.default (.modr 0) = true
      ∧ Instr.wf toggling (.modp 0) = true := by decide
theorem test_wf_unknown_needs_an_unknown_byte :
    Instr.wf Config.default (.unk 0x41) = false ∧ Instr.wf Config.default (.unk 0xB1) = false
      ∧ Instr.wf Config.default (.unk 0x88) = false ∧ Instr.wf flat (.unk 0xB1) = true
      ∧ Instr.wf toggling (.unk 0x88) = true ∧ Instr.wf Config.default (.unk 0xC3) = true := by decide

/-! ## Decoding: words written out from 30_encoding.md R71 and R77 -/

theorem test_decode_events :
    decodeEvent 0b00 = .evNone ∧ decodeEvent 0b10 = .evZero ∧ decodeEvent 0b11 = .evOne
      ∧ decodeEvent 0b01 = .evReserved := by decide
theorem test_decode_ctrlchr :
    decodePByte Config.default 0b00000001 = .ctrlchr 0 ∧ decodePByte Config.default 0b00011010 = .ctrlchr 25 := by decide
theorem test_decode_print :
    decodePByte Config.default 0b00100000 = .print 0 ∧ decodePByte Config.default 0b01111110 = .print 94 := by decide
theorem test_decode_modifiers :
    decodePByte Config.default 0b10000101 = .modp 5 ∧ decodePByte Config.default 0b10001010 = .modr 2 := by decide
theorem test_decode_nav :
    decodePByte Config.default 0b10010000 = .nav 0 ∧ decodePByte Config.default 0b10011101 = .nav 13 := by decide
theorem test_decode_fkey :
    decodePByte Config.default 0b10100000 = .fkey 0 ∧ decodePByte Config.default 0b10101011 = .fkey 11 := by decide
theorem test_decode_single_bytes :
    decodePByte Config.default 0b10011110 = .eclr ∧ decodePByte Config.default 0b10110000 = .caps
      ∧ decodePByte Config.default 0b10110001 = .fnon ∧ decodePByte Config.default 0b10110010 = .fnoff := by decide
theorem test_decode_unknown :
    decodePByte Config.default 0b00000000 = .unk 0x00 ∧ decodePByte Config.default 0b01111111 = .unk 0x7F
      ∧ decodePByte flat 0xB1 = .unk 0xB1 ∧ decodePByte toggling 0x88 = .unk 0x88 := by decide
theorem test_decode_table_words :
    decodeTableWord 8 2 = some .evZero ∧ decodeTableWord 8 0x55 = some (.print 53) ∧ decodeTableWord 8 256 = none := by
  decide

/-! ## The events (vectors V2.1 to V2.19d, V1.5, V2.32) -/

theorem test_v2_1_zero_in_as0 :
    decoder (step (at' .as0 0 0 0 (.zero 100000))) = some ⟨.as1, 0, 0, 100000, .none, false, 0⟩ := by decide
theorem test_v2_2_one_in_as0 :
    decoder (step (at' .as0 0 0 0 (.one 100000))) = some ⟨.as0, 0, 0, 0, .none, false, 0⟩ := by decide
theorem test_v2_6_one_at_the_limit :
    decoder (step (at' .as1 0 0 50000 (.one 100000))) = some ⟨.rx, 0, 0, 100000, .none, false, 0⟩ := by decide
theorem test_v2_8_zero_past_the_limit :
    decoder (step (at' .as1 0 0 49999 (.zero 100000))) = some ⟨.as1, 0, 0, 100000, .startTimeout, false, 0⟩ := by decide
theorem test_v2_10_seventh_bit :
    decoder (step (at' .rx 6 0b010101 90000 (.zero 100000))) = some ⟨.rx, 7, 0b0101010, 100000, .none, false, 0⟩ := by
  decide
theorem test_v2_11_frame_of_u :
    decoder (step (at' .rx 7 0b0101010 90000 (.one 100000))) = some ⟨.as0, 0, 0, 100000, .none, true, 0x55⟩
      ∧ dispatched (step (at' .rx 7 0b0101010 90000 (.one 100000)))
        = some ⟨[.press 0xE1, .press 0x18, .release 0x18, .release 0xE1], .none, 0, false, false⟩ := by decide
theorem test_v2_3_no_event :
    decoder (step (at' .as0 0 0 0 (.tick 100000))) = some ⟨.as0, 0, 0, 0, .none, false, 0⟩ := by decide
theorem test_v2_16_start_timeout :
    decoder (step (at' .as1 0 0 1000 (.tick 51001))) = some ⟨.as0, 0, 0, 1000, .startTimeout, false, 0⟩ := by decide
theorem test_v2_18_19_timeout_across_the_wrap :
    decoder (step (at' .rx 5 0b10110 4294967286 (.tick 1999989))) = some ⟨.rx, 5, 0b10110, 4294967286, .none, false, 0⟩
      ∧ decoder (step (at' .rx 5 0b10110 4294967286 (.tick 1999991)))
        = some ⟨.as0, 0, 0, 4294967286, .frameTimeout 5, false, 0⟩ := by decide
theorem test_v2_19a_19c_without_start_symbol :
    decoder (step (bare 0 0 0 (.tick 4000000))) = some ⟨.rx, 0, 0, 0, .none, false, 0⟩
      ∧ decoder (step (bare 5 0b10110 10 (.one 2000011))) = some ⟨.rx, 1, 1, 2000011, .frameTimeout 5, false, 0⟩ := by
  decide
theorem test_v2_19d_timeout_then_start :
    decoder (step (at' .rx 3 0b101 0 (.zero 2000001))) = some ⟨.as1, 0, 0, 2000001, .frameTimeout 3, false, 0⟩ := by
  decide
theorem test_v2_32_request_is_honoured :
    decoder (step { at' .as0 0 0 0 (.zero 300000) with fdRstreq := true })
        = some ⟨.as1, 0, 0, 300000, .none, false, 0⟩
      ∧ dispatched (step { at' .as0 0 0 0 (.zero 300000) with fdRstreq := true })
        = some ⟨[], .none, 0, false, false⟩ := by decide
theorem test_reserved_event :
    reason (step (at' .as0 0 0 0 { Input.idle with ev := 0b01 })) = some .reservedEvent := by decide
theorem test_illegal_configuration :
    reason (step (under { Config.default with tStart := 2000000 })) = some .illegalConfig
      ∧ reason (step (under { Config.default with ifMode := .raw, tDb := 0 })) = some .illegalConfig := by decide

/-- Vector V2.33: a reset in the middle of a frame, with modifiers latched. -/
def midFrame : State :=
  { at' .rx 4 0b1010 90000 { rst := true, now := 12345, ev := 0b11, raw := 0b11 } with
    latch := 0x81, fn := true, ls0 := { db := false, raw := false, tchg := 5 } }
theorem test_v2_33_reset_mid_frame :
    decoder (step midFrame) = some ⟨.as0, 0, 0, 0, .none, false, 0⟩
      ∧ dispatched (step midFrame) = some ⟨[], .none, 0, false, false⟩
      ∧ sampled (step midFrame) = some (.reset, .reset) := by decide

/-! ## The protocol bytes (vectors V2.20 to V2.31a) -/

theorem test_v2_20_ctrl_c :
    dispatched (exec (.ctrlchr 2) State.reset)
      = some ⟨[.press 0xE0, .press 0x06, .release 0x06, .release 0xE0], .none, 0, false, false⟩ := by decide
theorem test_v2_29_ctrl_under_latched_ctrl :
    dispatched (exec (.ctrlchr 2) (held 0x01 false))
      = some ⟨[.press 0xE0, .press 0x06, .release 0x06, .release 0xE0], .none, 0x01, false, false⟩ := by decide
theorem test_v2_31a_space :
    dispatched (exec (.print 0) State.reset) = some ⟨[.press 0x2C, .release 0x2C], .none, 0, false, false⟩ := by decide
theorem test_v2_31_absent_character :
    dispatched (exec (.print 94) (under { Config.default with charTable := Config.defaultCharTable.set 94 none }))
      = some ⟨[.layout 0x7E], .none, 0, false, false⟩ := by decide
theorem test_v2_28_press_again :
    dispatched (exec (.modp 0) (held 0x01 false)) = some ⟨[.press 0xE0], .none, 0x01, false, false⟩ := by decide
theorem test_v2_27a_toggle_releases :
    dispatched (exec (.modp 0) { under toggling with latch := 0x01 })
      = some ⟨[.release 0xE0], .none, 0x00, false, false⟩ := by decide
theorem test_v2_28a_release_of_released :
    dispatched (exec (.modr 7) State.reset) = some ⟨[.release 0xE7], .none, 0x00, false, false⟩ := by decide
theorem test_v2_20_nav_backspace_and_page_down :
    dispatched (exec (.nav 4) State.reset) = some ⟨[.press 0x2A, .release 0x2A], .none, 0, false, false⟩
      ∧ dispatched (exec (.nav 13) State.reset) = some ⟨[.press 0x4E, .release 0x4E], .none, 0, false, false⟩ := by decide
theorem test_v2_30_emergency_clear :
    dispatched (exec .eclr (held 0xFF true)) = some ⟨[.releaseAll], .none, 0x00, true, true⟩ := by decide
theorem test_v2_22_23_layered_and_plain_f12 :
    dispatched (exec (.fkey 11) (held 0 true))
        = some ⟨[.press 0xE0, .press 0x45, .release 0x45, .release 0xE0], .none, 0, true, false⟩
      ∧ dispatched (exec (.fkey 11) (held 0 false))
        = some ⟨[.press 0x45, .release 0x45], .none, 0, false, false⟩ := by decide
theorem test_v2_24_key_without_binding :
    dispatched (exec (.fkey 4)
        { under { Config.default with fnMap := Config.defaultFnMap.set 4 none } with fn := true })
      = some ⟨[.press 0x3E, .release 0x3E], .none, 0, true, false⟩ := by decide
theorem test_v2_20_caps :
    dispatched (exec .caps State.reset) = some ⟨[.press 0x39, .release 0x39], .none, 0, false, false⟩ := by decide
theorem test_v2_26_layer_on_and_off :
    dispatched (exec .fnon (held 0 false)) = some ⟨[], .none, 0, true, false⟩
      ∧ dispatched (exec .fnoff (held 0 true)) = some ⟨[], .none, 0, false, false⟩ := by decide
theorem test_v2_25_layer_byte_without_layer :
    dispatched (exec .fnon (under flat)) = some ⟨[], .unknown 0xB1, 0, false, false⟩ := by decide
theorem test_v1_3_unknown_byte :
    dispatched (exec (.unk 0xC3) (held 0xA5 true)) = some ⟨[], .unknown 0xC3, 0xA5, true, false⟩ := by decide

/-! ## The Line Sampler (vectors V2.35, V2.36, V2.41, V2.43, V2.49) -/

theorem test_v2_35_36_fall_becomes_stable :
    decoder (step (lines { falling with tchg := 100000 } .reset (.sample false true 109999)))
        = some ⟨.as0, 0, 0, 0, .none, false, 0⟩
      ∧ decoder (step (lines { falling with tchg := 100000 } .reset (.sample false true 110000)))
        = some ⟨.as1, 0, 0, 110000, .none, false, 0⟩ := by decide
theorem test_v2_41_43_glitch_and_rise_are_no_edges :
    sampled (step (lines .reset { falling with tchg := 135000 } (.sample true true 137000)))
        = some (.reset, { db := true, raw := true, tchg := 137000 })
      ∧ sampled (step (lines { db := false, raw := true, tchg := 135000 } .reset (.sample true true 145000)))
        = some ({ db := true, raw := true, tchg := 135000 }, .reset)
      ∧ decoder (step (lines { db := false, raw := true, tchg := 135000 } .reset (.sample true true 145000)))
        = some ⟨.as0, 0, 0, 0, .none, false, 0⟩ := by decide
theorem test_v2_49_two_falls_at_one_sample :
    decoder (step { lines { falling with tchg := 200000 } { falling with tchg := 200000 } (.sample false false 210000)
        with fdSt := .rx, fdTref := 150000 })
      = some ⟨.rx, 2, 0b01, 210000, .none, false, 0⟩ := by decide

/-! ## Placing an instruction for the next step -/

theorem test_withFetchWord_runs_an_event :
    decoder (step (State.reset.withFetchWord 8 0b10)) = some ⟨.as1, 0, 0, 0, .none, false, 0⟩ := by decide
theorem test_withFetchWord_runs_a_byte :
    dispatched (step (State.reset.withFetchWord 8 0x94))
      = some ⟨[.press 0x2A, .release 0x2A], .none, 0, false, false⟩ := by decide

/-! ## Witnesses: concrete states that meet the hypotheses of each obligation, at the boundaries of each clause -/

theorem next_of_goesOn {r : Result} (h : goesOn r = true) : ∃ t, r = .next t := by
  cases r with
  | next t => exact ⟨t, rfl⟩
  | fault f => cases h
  | refused r => cases h

theorem witness_ResetCycleResetsEverythingInSilence :
    midFrame.cfg.valid = true ∧ midFrame.sample.port.rst = true
      ∧ (lines falling .reset (.reset 0)).cfg.valid = true
      ∧ (lines falling .reset (.reset 0)).sample.port.rst = true := by decide

theorem witness_EveryWordAndInstructionRoundTrips :
    Instr.wf flat (.unk 0xB2) = true ∧ Instr.wf toggling (.unk 0x8F) = true
      ∧ Instr.wf Config.default (.print 94) = true := by decide

theorem witness_StepRunsThePresentedEvent :
    (at' .as0 0 0 0 (.tick 1)).presents 0b00 ∧ (at' .as0 0 0 0 (.zero 1)).presents 0b10
      ∧ (at' .as0 0 0 0 (.one 1)).presents 0b11
      ∧ (at' .as0 0 0 0 { Input.idle with ev := 0b01 }).presents 0b01 := by decide

theorem witness_RawStepRunsTheSampledEvents :
    let none := lines falling falling (.sample false false 9999)
    let zero := lines falling .reset (.sample false true 10000)
    let one := lines .reset falling (.sample true false 10000)
    let both := lines falling falling (.sample false false 10000)
    (none.cfg.valid = true ∧ none.cfg.ifMode = .raw ∧ none.sample.port.rst = false)
      ∧ (none.sample.sampleZero.2 = false ∧ none.sample.sampleOne.2 = false)
      ∧ (zero.sample.sampleZero.2 = true ∧ zero.sample.sampleOne.2 = false)
      ∧ (one.sample.sampleZero.2 = false ∧ one.sample.sampleOne.2 = true)
      ∧ (both.sample.sampleZero.2 = true ∧ both.sample.sampleOne.2 = true)
      ∧ zero.sample.port.rst = false ∧ one.sample.port.rst = false ∧ both.sample.port.rst = false := by decide

/-- One state per clause of the phases before the event, all with the decoder's invariant. -/
def phaseStates : List State :=
  let p (s : State) : State := s.sample
  [p { at' .as0 0 0 0 (.tick 5) with fdRstreq := true }, p (at' .as0 0 0 0 (.tick 5)),
    p (at' .as1 0 0 1000 (.tick 51000)), p (at' .as1 0 0 1000 (.tick 51001)),
    p (at' .rx 3 0b101 1000 (.tick 2001000)), p (bare 0 0 1000 (.tick 2001001)),
    p (at' .rx 3 0b101 1000 (.tick 2001001)), p (bare 7 0b1111111 1000 (.tick 2001001))]

theorem witness_PhasesBeforeTheEvent :
    (∀ s ∈ phaseStates, s.fdInv)
      ∧ phaseStates.map (fun s => (s.fdRstreq, s.fdSt, elapsed s.cfg.w s.port.now s.fdTref))
        = [(true, .as0, 5), (false, .as0, 5), (false, .as1, 50000), (false, .as1, 50001), (false, .rx, 2000000),
          (false, .rx, 2000001), (false, .rx, 2000001), (false, .rx, 2000001)] := by decide

theorem witness_CompletedFrameRunsItsByte :
    (at' .rx 7 0b0101010 0 (.one 5)).fdSt = .rx ∧ (at' .rx 7 0b0101010 0 (.one 5)).fdCnt = 7 := by decide

theorem witness_StagedByteRunsInTheNextStep :
    ({ State.reset.cfg with ifMode := .edge } : Config).valid = true := by decide

/-- AS0 as it stands, and as a start-window and an inactivity timeout of the same step leave it. -/
theorem witness_ZeroEdgeInAs0StartsTheWindow :
    (at' .as0 0 0 0 (.zero 5)).fdSt = .as0
      ∧ (at' .as1 0 0 1000 (.zero 51001)).presents 0b10
      ∧ (at' .as1 0 0 1000 (.zero 51001)).sample.prepare.fdSt = .as0
      ∧ (at' .rx 3 0b101 0 (.zero 2000001)).presents 0b10
      ∧ (at' .rx 3 0b101 0 (.zero 2000001)).sample.prepare.fdSt = .as0 := by decide

theorem witness_ZeroEdgeInAs1RestartsTheWindow :
    let a := at' .as1 0 0 1000 (.zero 51000)
    let b := at' .as1 0 0 1000 (.zero 51001)
    a.presents 0b10 ∧ a.since 50000 ∧ a.fdInv ∧ a.fdSt = .as1 ∧ a.fdRstreq = false
      ∧ b.presents 0b10 ∧ b.since 50001 ∧ b.fdInv ∧ b.fdSt = .as1 ∧ b.fdRstreq = false := by decide

theorem witness_OneEdgeInAs0IsIgnored :
    (at' .as0 0 0 0 (.one 5)).fdSt = .as0
      ∧ (at' .as1 0 0 1000 (.one 51001)).presents 0b11
      ∧ (at' .as1 0 0 1000 (.one 51001)).sample.prepare.fdSt = .as0 := by decide

theorem witness_OneEdgeInAs1CompletesTheStartSymbol : (at' .as1 0 0 1000 (.one 51000)).fdSt = .as1 := by decide

theorem witness_StartWindowClosesOneTickPastItsLimit :
    let a := at' .as1 0 0 1000 (.one 51000)
    let b := at' .as1 0 0 1000 (.one 51001)
    a.presents 0b11 ∧ a.since 50000 ∧ a.fdInv ∧ a.fdSt = .as1 ∧ a.fdRstreq = false ∧ a.cfg.tStart = 50000
      ∧ b.presents 0b11 ∧ b.since 50001 ∧ b.fdInv ∧ b.fdSt = .as1 ∧ b.fdRstreq = false := by decide

theorem witness_DataBitIsShiftedIn :
    let a := at' .rx 0 0 0 (.zero 0)
    let b := at' .rx 6 0b111111 1000 (.one 2001000)
    (a.fdSt = .rx ∧ a.fdCnt.toNat < 7 ∧ a.fdBuf.toNat < 2 ^ a.fdCnt.toNat ∧ a.presents (0b1#1 ++ 0b0#1) ∧ a.since 0)
      ∧ b.fdSt = .rx ∧ b.fdCnt.toNat < 7 ∧ b.fdBuf.toNat < 2 ^ b.fdCnt.toNat ∧ b.presents (0b1#1 ++ 0b1#1)
      ∧ b.since 2000000 ∧ b.cfg.tIdle = 2000000 ∧ b.fdRstreq = false := by decide

theorem witness_IdleTimeoutDiscardsThePartialFrame :
    let a := at' .rx 3 0b101 1000 (.tick 2001000)
    let b := at' .rx 0 0 1000 (.tick 2001001)
    let c := bare 7 0b1111111 1000 (.tick 2001001)
    let d := bare 0 0 1000 (.tick 2001001)
    (a.presents 0b00 ∧ a.since 2000000 ∧ a.fdSt = .rx ∧ a.fdRstreq = false ∧ a.cfg.tIdle = 2000000)
      ∧ (b.presents 0b00 ∧ b.since 2000001 ∧ b.fdSt = .rx ∧ b.fdRstreq = false ∧ b.cfg.startEn = true)
      ∧ (c.presents 0b00 ∧ c.since 2000001 ∧ c.fdSt = .rx ∧ c.fdRstreq = false ∧ c.fdCnt ≠ 0)
      ∧ d.presents 0b00 ∧ d.since 2000001 ∧ d.fdSt = .rx ∧ d.fdRstreq = false ∧ d.cfg.startEn = false
      ∧ d.fdCnt = 0 := by decide

theorem witness_ReservedEventIsRefused : (at' .rx 7 0 0 { Input.idle with ev := 0b01 }).presents 0b01 := by decide

/-- Parameters that break each part of 00_scope.md R7 at its boundary. -/
def illegalConfigs : List Config :=
  [{ Config.default with tStart := 0 }, { Config.default with tStart := 2000000 },
    { Config.default with tIdle := 2147483648 }, { Config.default with ifMode := .raw, tDb := 0 }]

theorem witness_IllegalConfigurationIsRefused :
    ∀ c ∈ illegalConfigs, ¬ (0 < c.tStart ∧ c.tStart < c.tIdle ∧ c.tIdle < 2 ^ (c.w - 1)
      ∧ (c.ifMode = .raw → 0 < c.tDb)) := by decide

/-- For `LayerOnByteSetsTheFlag` and `LayerOffByteClearsTheFlag`. -/
theorem witness_LayerBytes :
    State.reset.cfg.fnEn = true ∧ (under flat).cfg.fnEn = false := by decide

/-- For `ModifierPressLatches`, `ModifierToggleFlipsTheLatch`, `ModifierReleaseUnlatches`, `PressThenReleasePairs`. -/
theorem witness_ModifierBytes :
    State.reset.cfg.modMode = .pressRelease ∧ (under toggling).cfg.modMode = .toggle := by decide

theorem witness_PlainFunctionKeyIsTapped :
    (under flat).cfg.fnEn = false ∧ (held 0 false).fn = false
      ∧ ({ Config.default with fnMap := Config.defaultFnMap.set 11 none } : Config).fnMap[11] = none
      ∧ (0xAC : Byte) ≤ 0xAC ∧ (0xAF : Byte) ≤ 0xAF := by decide

theorem witness_LayeredFunctionKeyIsWrapped :
    (held 0 true).cfg.fnEn = true ∧ (held 0 true).fn = true ∧ (held 0 true).cfg.fnMap[0] = some 0
      ∧ (held 0 true).cfg.fnMap[11] = some 0 := by decide

theorem witness_PrintableByteTypesItsCharacter :
    Config.default.charTable[94] = some ⟨0x35, true⟩ ∧ Config.default.charTable[0] = some ⟨0x2C, false⟩
      ∧ ({ Config.default with charTable := Config.defaultCharTable.set 94 none } : Config).charTable[94] = none := by
  decide

theorem witness_UnknownByteIsOnlyLogged :
    classOf Config.default 0xFF = .unk ∧ classOf flat 0xB2 = .unk ∧ classOf toggling 0x8F = .unk := by decide

theorem witness_KeyBytesWriteOnlyOutputs :
    (match Instr.caps with
      | .nav _ | .fkey _ | .caps | .ctrlchr _ | .print _ | .unk _ => True
      | _ => False) := trivial

theorem witness_EveryStepKeepsTheStateInvariant :
    (at' .rx 7 0b1001111 80000 (.zero 90000)).Inv
      ∧ ∃ t, step (at' .rx 7 0b1001111 80000 (.zero 90000)) = .next t :=
  ⟨by decide, next_of_goesOn (by decide)⟩

theorem witness_TheBlockNeverHalts :
    (at' .as0 0 0 0 (.one 1)).cfg.valid = true ∧ (at' .as0 0 0 0 (.one 1)).sample.port.rst = false
      ∧ (at' .as0 0 0 0 (.one 1)).sample.port.ev ≠ 0b01 ∧ (lines falling falling (.sample false false 9)).cfg.valid = true
      ∧ (lines falling falling (.sample false false 9)).cfg.ifMode = .raw := by decide

/-- For `StepOutputsAreBounded` and `ParametersAndSamplerKeepToThemselves`: a step that forms a byte, one that times
out, one in RAW mode with two edges. -/
theorem witness_StepsThatGoOn :
    (∃ t, step (at' .rx 7 0b0101010 90000 (.one 100000)) = .next t)
      ∧ (∃ t, step (at' .rx 3 0b101 0 (.tick 2000001)) = .next t)
      ∧ ∃ t, step (lines falling falling (.sample false false 10000)) = .next t :=
  ⟨next_of_goesOn (by decide), next_of_goesOn (by decide), next_of_goesOn (by decide)⟩

/-- RAW, both falls accepted: the ZERO cycle completes the unknown byte 0x00. -/
def rawByte : State :=
  { lines falling falling (.sample false false 10000) with fdSt := .rx, fdCnt := 7, fdBuf := 0 }

/-- RAW, both falls accepted: the ZERO cycle times the start window out, one tick past it. -/
def rawTimeout : State :=
  { lines falling falling (.sample false false 60001) with fdSt := .as1, fdTref := 10000 }

/-- For the two cycles of `StepOutputsAreBounded`: a byte in the first, and a timeout in the first. -/
theorem witness_StepOutputsAreBounded_two_cycles :
    (∀ s ∈ [rawByte, rawTimeout], s.cfg.valid = true ∧ s.cfg.ifMode = .raw ∧ s.sample.port.rst = false
        ∧ s.sample.sampleZero.2 = true ∧ s.sample.sampleOne.2 = true
        ∧ (match exec .evZero s.sample.lsWrite.prepare with
          | .next t => goesOn (exec .evOne t.prepare)
          | _ => false) = true)
      ∧ (decoder (exec .evZero rawByte.sample.lsWrite.prepare)).map (fun v => (v.byteV, v.diag))
        = some (true, .unknown 0x00)
      ∧ (decoder (exec .evZero rawTimeout.sample.lsWrite.prepare)).map (fun v => (v.byteV, v.diag))
        = some (false, .startTimeout) := by decide

/-- Steps without reset that change the latch, the layer and the reset request. -/
theorem witness_OnlyTheirBytesChangeLatchAndLayer :
    (dispatched (step (at' .rx 7 0b1000000 0 (.zero 5)))).map (·.latch) = some 0x01
      ∧ (dispatched (step (at' .rx 7 0b1011000 0 (.one 5)))).map (·.fn) = some true
      ∧ (dispatched (step (at' .rx 7 0b1001111 0 (.zero 5)))).map (·.req) = some true
      ∧ (at' .rx 7 0b1001111 0 (.zero 5)).sample.port.rst = false := by decide

theorem witness_NoPartialByteIsEverEmitted :
    (at' .rx 7 0b0101010 0 (.one 2000000)).cfg.ifMode = .edge
      ∧ (decoder (step (at' .rx 7 0b0101010 0 (.one 2000000)))).map (·.byteV) = some true := by decide

theorem witness_FrameWithStartSymbolYieldsItsByte :
    let s := { State.reset with inputs := frameEdges Config.default 0x55 4294947296 50000 }
    s.cfg.valid = true ∧ s.cfg.ifMode = .edge ∧ s.cfg.startEn = true ∧ s.isIdle = true ∧ s.fdRstreq = false
      ∧ 50000 ≤ s.cfg.tStart ∧ s.inputs.length = 10 := by decide

theorem witness_FrameWithoutStartSymbolYieldsItsByte :
    let c := { Config.default with startEn := false }
    let s := { under c with fdSt := .rx, inputs := frameEdges c 0xFF 0 2000000 }
    s.cfg.valid = true ∧ s.cfg.ifMode = .edge ∧ s.cfg.startEn = false ∧ s.isIdle = true ∧ s.fdRstreq = false
      ∧ 2000000 ≤ s.cfg.tIdle ∧ s.inputs.length = 8 := by decide

theorem witness_SilenceResynchronisesTheDecoder :
    let a := at' .rx 7 0b1111111 1000 (.zero 2001001)
    let b := at' .as1 0 0 1000 (.zero 2001001)
    a.presents 0b10 ∧ a.since 2000001 ∧ a.fdInv ∧ a.cfg.startEn = true ∧ a.cfg.tIdle < 2000001
      ∧ b.presents 0b10 ∧ b.since 2000001 ∧ b.fdInv ∧ b.cfg.startEn = true := by decide

theorem witness_IdleCyclesDoNotChangeFraming :
    let s := { at' .rx 3 0b101 1000 (.tick 2001000) with inputs := [.tick 2001000, .one 2001000] }
    s.cfg.valid = true ∧ s.cfg.ifMode = .edge ∧ s.fdInv ∧ (Input.tick 2001000).rst = false
      ∧ (Input.tick 2001000).ev = 0b00 ∧ (Input.one 2001000).rst = false ∧ (Input.one 2001000).ev ≠ 0b01
      ∧ elapsed s.cfg.w (2001000 % 2 ^ s.cfg.w) s.fdTref ≤ elapsed s.cfg.w (2001000 % 2 ^ s.cfg.w) s.fdTref := by decide

/-- The state after the emergency clear of AS0, with a step without an edge at hand. -/
theorem witness_EmergencyClearIsImmediateAndDoneOnce :
    ({ Config.default with ifMode := .edge } : Config).valid = true
      ∧ (match step ({ held 0xFF true with inputs := [.tick 7] }.withByte 0x9E) with
        | .next t => decide (t.presents 0b00 ∧ t.since 7 ∧ t.out.cmds = [.releaseAll] ∧ t.fdRstreq = true)
        | _ => false) = true := by decide

/-- Each clause of the debouncer's table, the stability test at its boundary. -/
theorem witness_DebouncerFollowsItsTable :
    let c := Config.default
    (LineState.reset.db = true ∧ LineState.reset.raw ≠ false)
      ∧ (LineState.reset.raw = true ∧ LineState.reset.db = true)
      ∧ (falling.raw = false ∧ falling.db ≠ false ∧ ¬ c.tDb ≤ elapsed c.w 9999 falling.tchg)
      ∧ (falling.raw = false ∧ falling.db = true ∧ c.tDb ≤ elapsed c.w 10000 falling.tchg)
      ∧ let rising : LineState := { db := false, raw := true, tchg := 0 }
        rising.raw = true ∧ rising.db = false ∧ c.tDb ≤ elapsed c.w 10000 rising.tchg := by decide

theorem witness_ShortPulseIsNeverReported :
    LineState.reset.db = true ∧ LineState.reset.raw = true
      ∧ ∀ t ∈ [5000, 9999, 14999], elapsed Config.default.w t 5000 < Config.default.tDb := by decide

theorem witness_HeldPulseIsReportedOnce :
    LineState.reset.db = true ∧ LineState.reset.raw = true
      ∧ ∃ t ∈ [5000, 15000, 90000], Config.default.tDb ≤ elapsed Config.default.w t 5000 := by decide

end Sys2Proof.Tests
end

section
/-! SUPPORT. The Frame Decoder's statements on AS0 and on data bits (spec/42_frame_decoder.md R145, R146, R150), at the
level of an event and of an EDGE step. -/

namespace Sys2Proof.Machine

/-! An EDGE step by the event it samples. -/

/-- An EDGE step without reset is the phases and then the presented event (40_cycle.md R100, R103). -/
theorem step_of_presents {s : State} {ev : BitVec 2} (h : s.presents ev) :
    step s = exec (decodeEvent ev) s.sample.prepare := by
  obtain ⟨hvalid, hmode, hrst, rfl⟩ := h
  rw [step_edge s hvalid hmode, cycleWith_run _ _ _ hrst]

/-- The word of the data bit `sym` is the edge on its line (30_encoding.md R71, R74). -/
theorem decodeEvent_dataBit (sym : BitVec 1) :
    decodeEvent (0b1#1 ++ sym) = if sym = 0 then .evZero else .evOne := by
  rcases bit_cases sym with rfl | rfl <;> rfl

/-- `since d` says that `d` ticks have elapsed, a wrap of the count included (00_scope.md R8). -/
theorem elapsed_of_since {s : State} {d : Nat} (h : s.since d) :
    elapsed s.cfg.w s.sample.port.now s.fdTref = d := by
  obtain ⟨hd, hnow⟩ := h
  rw [hnow, elapsed_add _ _ _ hd]

/-- With no reset request pending and no timeout expired, the phases only clear the outputs. -/
theorem prepare_eq_clearOut (s : State) (hreq : s.fdRstreq = false)
    (hstart : s.fdSt = .as1 → elapsed s.cfg.w s.port.now s.fdTref ≤ s.cfg.tStart)
    (hidle : s.fdSt = .rx ∨ s.fdCnt ≠ 0 → elapsed s.cfg.w s.port.now s.fdTref ≤ s.cfg.tIdle) :
    s.prepare = s.clearOut := by
  have hreset : s.clearOut.fdResetPhase = s.clearOut := by simp [State.fdResetPhase, hreq]
  rw [State.prepare, hreset, fdTimeoutPhase_of_not_expired s.clearOut hstart hidle]

/-- In RX a step within `T_IDLE` of the reference time meets no timeout (42_frame_decoder.md R143, R144). -/
theorem sample_prepare_rx {s : State} {d : Nat} (hsince : s.since d) (hd : d ≤ s.cfg.tIdle)
    (hreq : s.fdRstreq = false) (hst : s.fdSt = .rx) : s.sample.prepare = s.sample.clearOut := by
  refine prepare_eq_clearOut s.sample hreq (fun has1 => ?_) (fun _ => ?_)
  · rw [State.sample_fdSt, hst] at has1
    cases has1
  · exact (elapsed_of_since hsince).trans_le hd

/-- A data bit in RX with room in the buffer is pushed, whichever line it comes on (R149, R150). -/
theorem execEdge_rx_room (sym : BitVec 1) (s : State) (hst : s.fdSt = .rx) (hroom : s.fdCnt.toNat < 7) :
    exec (if sym = 0 then .evZero else .evOne) s = .next (s.pushBit sym) := by
  have hne : s.fdCnt ≠ 7 := fun h => by simp [h] at hroom
  rw [execEdge_rx sym s hst, dataBit_room sym s hne]

/-! The statements. -/

/-- Settles O19: within `T_IDLE` the phases only clear the outputs, so the step is the push of the bit. -/
theorem dataBitIsShiftedIn : Obligations.DataBitIsShiftedIn := by
  refine ⟨decodeEvent_dataBit, fun s sym hst hroom hbuf => ?_, fun s sym d hev hsince hd hreq hst hroom hbuf => ?_⟩
  · exact ⟨(s.pushBit sym).fdCnt, (s.pushBit sym).fdBuf, pushBit_fdCnt_toNat sym s hroom,
      pushBit_fdBuf_toNat sym s hbuf hroom, execEdge_rx_room sym s hst hroom⟩
  · have hstep : step s = .next (s.sample.clearOut.pushBit sym) := by
      rw [step_of_presents hev, sample_prepare_rx hsince hd hreq hst, decodeEvent_dataBit]
      exact execEdge_rx_room sym s.sample.clearOut hst hroom
    exact ⟨_, hstep, hst, pushBit_fdCnt_toNat sym s.sample.clearOut hroom,
      pushBit_fdBuf_toNat sym s.sample.clearOut hbuf hroom, rfl, hreq, rfl, rfl, rfl⟩

/-- Settles O14: the phases keep the sampled time, so the step's ZERO edge records it. -/
theorem zeroEdgeInAs0StartsTheWindow : Obligations.ZeroEdgeInAs0StartsTheWindow := by
  have hexec (s : State) (hst : s.fdSt = .as0) : exec .evZero s = .next s.enterAs1 :=
    execEvZero_waiting s (by simp [hst])
  refine ⟨rfl, hexec, fun s hev hst => ?_⟩
  have hnow : s.sample.prepare.port = s.sample.port := (prepare_same s.sample).port
  rw [step_of_presents hev, ← hnow]
  exact hexec s.sample.prepare hst

/-- Settles O16: the ONE edge leaves in AS0 what the phases left. -/
theorem oneEdgeInAs0IsIgnored : Obligations.OneEdgeInAs0IsIgnored := by
  refine ⟨rfl, execEvOne_as0, fun s hev hst => ?_⟩
  rw [step_of_presents hev]
  exact execEvOne_as0 s.sample.prepare hst

end Sys2Proof.Machine
end

section
/-! SUPPORT. The statements on the key bytes (spec/44_dispatch_keys.md R200, R202, R205, R210): navigation, plain
function keys, caps lock and the unknown bytes. -/

namespace Sys2Proof

/-- `class` (30_encoding.md R78) answers UNK on exactly the bytes of R79's list. -/
theorem classOf_eq_unk_iff (c : Config) (b : Byte) : classOf c b = .unk ↔ isUnkByte c b = true := by
  revert b
  exact forall_flags (p := fun c => ∀ b, classOf c b = .unk ↔ isUnkByte c b = true) (fun _ => Iff.rfl)
    (by decide) (by decide) (by decide) (by decide) c

/-- A byte of class UNK is its own operand (30_encoding.md R84). -/
theorem decodePByte_of_classOf_unk {c : Config} {b : Byte} (h : classOf c b = .unk) : decodePByte c b = .unk b := by
  rw [decodePByte, h]

end Sys2Proof

namespace Sys2Proof.Machine

/-- A tap appends the key's press and release and writes nothing else (00_scope.md §5). -/
theorem State.tap_eq (key : Key) (s : State) :
    s.tap key = { s with out := { s.out with cmds := s.out.cmds ++ [.press key, .release key] } } := by
  simp [State.tap, State.emitCmd]

/-- `FKEYKEY(n)` is the sum, which fits in a byte (30_encoding.md R81). -/
theorem fkeyKey_eq_ofNat (n : Fin 12) : fkeyKey n = BitVec.ofNat 8 (0x3A + n.val) :=
  (BitVec.ofNat_add 0x3A n.val).symm

/-- When a function key's byte is not layered: the negation of R203's three conditions. -/
theorem layerMod_eq_none_iff (n : Fin 12) (s : State) :
    layerMod n s = none ↔ s.cfg.fnEn = false ∨ s.fn = false ∨ s.cfg.fnMap[n] = none := by
  unfold layerMod readFnMap
  cases s.cfg.fnEn <;> cases s.fn <;> simp

/-- A function key's byte that is not layered is a tap (44_dispatch_keys.md R202). -/
theorem exec_fkey_of_not_layered {n : Fin 12} {s : State} (h : layerMod n s = none) :
    exec (.fkey n) s = .next (s.tap (fkeyKey n)) := by
  simp only [exec, execFkey, h]

/-! The statements. -/

/-- Settles O31: each of the three conditions leaves the key without a layer modifier, and its meaning is then the
tap. -/
theorem plainFunctionKeyIsTapped : Obligations.PlainFunctionKeyIsTapped := by
  refine ⟨fun c n => Laws.WordRoundTrip.fkey n c rfl, fun c b hlo hhi => ?_, fun s n hplain => ?_⟩
  · have hlist : isUnkByte c b = true := by
      simp only [isUnkByte, hlo, hhi, decide_true, Bool.and_true, Bool.or_true, Bool.true_or]
    exact decodePByte_of_classOf_unk ((classOf_eq_unk_iff c b).mpr hlist)
  · rw [exec_fkey_of_not_layered ((layerMod_eq_none_iff n s).mpr hplain), State.tap_eq, fkeyKey_eq_ofNat]

/-- Settles O30: the meaning is the tap of the table's key. -/
theorem navigationByteTapsItsTableKey : Obligations.NavigationByteTapsItsTableKey := by
  refine ⟨fun c n => Laws.WordRoundTrip.nav n c rfl, fun c => ⟨Laws.WordRoundTrip.eclr c rfl, ?_⟩, fun s n => ?_⟩
  · exact Laws.WordRoundTrip.unk 0x9F c rfl
  · exact congrArg Host.Outcome.next (State.tap_eq (readNav s.cfg n) s)

/-- Settles O33: the meaning is the tap of caps lock. -/
theorem capsByteTapsCapsLock : Obligations.CapsByteTapsCapsLock :=
  ⟨fun c => Laws.WordRoundTrip.caps c rfl, fun s => congrArg Host.Outcome.next (State.tap_eq keyCaps s)⟩

/-- Settles O36: the byte is its own operand, its meaning only sets the diagnostic, and the corner cases stand in
R79's list. -/
theorem unknownByteIsOnlyLogged : Obligations.UnknownByteIsOnlyLogged := by
  refine ⟨fun s u hunk => ⟨decodePByte_of_classOf_unk hunk, rfl⟩, fun c => ?_⟩
  simp only [classOf_eq_unk_iff]
  refine ⟨rfl, rfl, rfl, rfl, fun hfn => ?_, fun htoggle b hlo hhi => ?_⟩
  · simp [isUnkByte, hfn]
  · simp only [isUnkByte, htoggle, hlo, hhi, decide_true, beq_self_eq_true, Bool.and_true, Bool.or_true]

end Sys2Proof.Machine
end

section
/-! SUPPORT. The statements on the encodings (spec/30_encoding.md): both directions of decoding, the classes and the
operands of the bytes, the unknown bytes, and the words of commands and diagnostics. -/

namespace Sys2Proof

/-! Events and bytes decode to well-formed instructions that encode back. -/

/-- Every event word is the word of what it decodes to (30_encoding.md R71), and no parameter matters. -/
theorem decodeEvent_wf_encode (c : Config) (ev : BitVec 2) :
    (decodeEvent ev).wf c = true ∧ encode (decodeEvent ev) = .event ev := by
  have hword : ∀ e, encode (decodeEvent e) = .event e := by decide
  refine ⟨?_, hword ev⟩
  unfold decodeEvent
  split_ifs <;> rfl

/-- Every byte is the word of what it decodes to, whichever of the four pairs of flags is set (R77, R78). -/
theorem decodePByte_wf_encode (c : Config) (b : Byte) :
    (decodePByte c b).wf c = true ∧ encode (decodePByte c b) = .pbyte b := by
  revert b
  refine forall_flags (p := fun c => ∀ b, (decodePByte c b).wf c = true ∧ encode (decodePByte c b) = .pbyte b)
    (fun c => ?_) (by decide) (by decide) (by decide) (by decide) c
  simp only [wf_withFlags c, decodePByte_withFlags c]

/-- The word of a well-formed instruction decodes to it, constructor by constructor. -/
theorem decode_encode (c : Config) (i : Instr) (h : i.wf c = true) : decode c (encode i) = i := by
  cases i with
  | evNone => exact Laws.WordRoundTrip.evNone c h
  | evZero => exact Laws.WordRoundTrip.evZero c h
  | evOne => exact Laws.WordRoundTrip.evOne c h
  | evReserved => exact Laws.WordRoundTrip.evReserved c h
  | ctrlchr j => exact Laws.WordRoundTrip.ctrlchr j c h
  | print i => exact Laws.WordRoundTrip.print i c h
  | modp k => exact Laws.WordRoundTrip.modp k c h
  | modr k => exact Laws.WordRoundTrip.modr k c h
  | nav n => exact Laws.WordRoundTrip.nav n c h
  | eclr => exact Laws.WordRoundTrip.eclr c h
  | fkey n => exact Laws.WordRoundTrip.fkey n c h
  | caps => exact Laws.WordRoundTrip.caps c h
  | fnon => exact Laws.WordRoundTrip.fnon c h
  | fnoff => exact Laws.WordRoundTrip.fnoff c h
  | unk u => exact Laws.WordRoundTrip.unk u c h

/-- Settles O4: one direction by constructor, the other by format. -/
theorem everyWordAndInstructionRoundTrips : Obligations.EveryWordAndInstructionRoundTrips := by
  refine ⟨decode_encode, fun c w => ?_⟩
  cases w with
  | event ev => exact decodeEvent_wf_encode c ev
  | pbyte b => exact decodePByte_wf_encode c b

/-- Settles O3: each word is decoded by evaluation. -/
theorem writtenWordsDecodeToTheirInstructions : Obligations.WrittenWordsDecodeToTheirInstructions := by
  unfold Obligations.WrittenWordsDecodeToTheirInstructions
  decide

/-! The bytes of each class. -/

/-- The bytes of a class under the parameters `c`, as 30_encoding.md R77 and R79 list them. -/
def PClass.covers (c : Config) (b : Byte) : PClass → Bool
  | .ctrlchr => 0x01 ≤ b && b ≤ 0x1A
  | .print => 0x20 ≤ b && b ≤ 0x7E
  | .modp => 0x80 ≤ b && b ≤ 0x87
  | .modr => 0x88 ≤ b && b ≤ 0x8F && c.modMode == .pressRelease
  | .nav => 0x90 ≤ b && b ≤ 0x9D
  | .eclr => b == 0x9E
  | .fkey => 0xA0 ≤ b && b ≤ 0xAB
  | .caps => b == 0xB0
  | .fnon => b == 0xB1 && c.fnEn
  | .fnoff => b == 0xB2 && c.fnEn
  | .unk => isUnkByte c b

/-- `class` (30_encoding.md R78) puts a byte in a class only when it is one of that class's bytes. -/
theorem classOf_covers (c : Config) (b : Byte) : (classOf c b).covers c b = true := by
  revert b
  exact forall_flags (p := fun c => ∀ b, (classOf c b).covers c b = true)
    (fun c => forall_congr' fun b => by rw [classOf_withFlags c b]; cases classOf _ b <;> rfl)
    (by decide) (by decide) (by decide) (by decide) c

/-- What `classOf c b = cl` says of the byte. -/
theorem covers_of_classOf {c : Config} {b : Byte} {cl : PClass} (h : classOf c b = cl) : cl.covers c b = true :=
  h ▸ classOf_covers c b

/-! The operands (30_encoding.md R84) on the bytes that carry them. -/

theorem operandJ_add (b : Byte) (h : 0x01 ≤ b ∧ b ≤ 0x1A) : (operandJ b).val + 0x01 = b.toNat := by
  have hlo : 0x01 ≤ b.toNat := h.1
  have hhi : b.toNat ≤ 0x1A := h.2
  simp only [operandJ, Fin.val_ofNat]
  omega

theorem operandC_add (b : Byte) (h : 0x20 ≤ b ∧ b ≤ 0x7E) : (operandC b).val + 0x20 = b.toNat := by
  have hlo : 0x20 ≤ b.toNat := h.1
  have hhi : b.toNat ≤ 0x7E := h.2
  simp only [operandC, Fin.val_ofNat]
  omega

/-- The character code of a PRINT byte's operand is the byte. -/
theorem charCode_operandC (b : Byte) (h : 0x20 ≤ b ∧ b ≤ 0x7E) : Machine.charCode (operandC b) = b := by
  rw [Machine.charCode, Nat.add_comm, operandC_add b h, BitVec.ofNat_toNat, BitVec.setWidth_eq]

theorem operandNav_val : ∀ b : Byte, 0x90 ≤ b ∧ b ≤ 0x9D →
    (operandNav b).val = (b.extractLsb' 0 4).toNat ∧ b.extractLsb' 4 4 = 0x9 := by decide

theorem operandFkey_val : ∀ b : Byte, 0xA0 ≤ b ∧ b ≤ 0xAB →
    (operandFkey b).val = (b.extractLsb' 0 4).toNat ∧ b.extractLsb' 4 4 = 0xA := by decide

theorem high_bits_modp : ∀ b : Byte, 0x80 ≤ b ∧ b ≤ 0x87 → b.extractLsb' 3 5 = 0b10000 := by decide

theorem high_bits_modr : ∀ b : Byte, 0x88 ≤ b ∧ b ≤ 0x8F → b.extractLsb' 3 5 = 0b10001 := by decide

/-- Settles O5: the range of the byte's class fixes the high bits and keeps the operand from wrapping. -/
theorem operandsAreTheByteFields : Obligations.OperandsAreTheByteFields := by
  intro c b
  have hbyte := classOf_covers c b
  unfold decodePByte
  cases hclass : classOf c b <;> simp only [hclass, PClass.covers, Bool.and_eq_true, decide_eq_true_eq] at hbyte
  case ctrlchr => exact operandJ_add b hbyte
  case print => exact ⟨charCode_operandC b hbyte, operandC_add b hbyte⟩
  case modp => exact ⟨rfl, high_bits_modp b hbyte⟩
  case modr => exact ⟨rfl, high_bits_modr b hbyte.1⟩
  case nav => exact operandNav_val b hbyte
  case fkey => exact operandFkey_val b hbyte
  all_goals rfl

/-- A byte decodes to itself as unknown exactly when its class is UNK. -/
theorem decodePByte_eq_unk_iff (c : Config) (b : Byte) : decodePByte c b = .unk b ↔ isUnkByte c b = true := by
  rw [← classOf_eq_unk_iff]
  refine ⟨fun h => ?_, decodePByte_of_classOf_unk⟩
  unfold decodePByte at h
  cases hclass : classOf c b <;> simp_all

/-- Settles O6: R79's list is the model's `isUnkByte`, and the default parameters have 89 such bytes. -/
theorem unknownBytesAreExactlyTheListedOnes : Obligations.UnknownBytesAreExactlyTheListedOnes := by
  refine ⟨fun c b => ?_, by decide⟩
  simp [decodePByte_eq_unk_iff, isUnkByte, or_assoc]

end Sys2Proof

namespace Sys2Proof.Machine

/-! The words of commands and diagnostics (30_encoding.md R80, R82). -/

/-- The number of a ten-bit word: the two high bits above the low eight. -/
theorem toNat_word (op : BitVec 2) (low : BitVec 8) : (op ++ low).toNat = op.toNat * 0x100 + low.toNat := by
  rw [BitVec.toNat_append, ← Nat.shiftLeft_add_eq_or_of_lt low.isLt, Nat.shiftLeft_eq]

/-- The command of a ten-bit word: R80 read backwards. -/
def Cmd.ofWord (w : BitVec 10) : Cmd :=
  match w.extractLsb' 8 2 with
  | 0b00 => .press (w.extractLsb' 0 8)
  | 0b01 => .release (w.extractLsb' 0 8)
  | 0b10 => .releaseAll
  | 0b11 => .layout (w.extractLsb' 0 8)

/-- The diagnostic of a ten-bit word: R82 read backwards. -/
def Diag.ofWord (w : BitVec 10) : Diag :=
  match w.extractLsb' 8 2 with
  | 0b00 => .none
  | 0b01 => .startTimeout
  | 0b10 => .frameTimeout (w.extractLsb' 0 8)
  | 0b11 => .unknown (w.extractLsb' 0 8)

theorem Cmd.ofWord_encode (c : Cmd) : Cmd.ofWord c.encode = c := by
  cases c <;> simp only [Cmd.encode, Cmd.ofWord, BitVec.extractLsb'_append_eq_left,
    BitVec.extractLsb'_append_eq_right]

theorem Diag.ofWord_encode (d : Diag) : Diag.ofWord d.encode = d := by
  cases d <;> simp only [Diag.encode, Diag.ofWord, BitVec.extractLsb'_append_eq_left,
    BitVec.extractLsb'_append_eq_right]

/-- Settles O7: the words are sums, and reading them backwards shows that no two agree. -/
theorem commandsAndDiagnosticsHaveDistinctWords : Obligations.CommandsAndDiagnosticsHaveDistinctWords := by
  refine ⟨fun k => ⟨?_, ?_, ?_⟩, rfl, fun b => ⟨?_, ?_⟩, rfl, rfl, ?_, ?_⟩
  · simp [Cmd.encode, toNat_word]
  · simp [Cmd.encode, toNat_word]
  · simp [Cmd.encode, toNat_word]
  · simp [Diag.encode, toNat_word]
  · simp [Diag.encode, toNat_word]
  · exact fun a b h => Function.LeftInverse.injective Cmd.ofWord_encode h
  · exact fun a b h => Function.LeftInverse.injective Diag.ofWord_encode h

end Sys2Proof.Machine
end

section
/-! SUPPORT. The statements on the protocol bytes that write the dispatcher's state (spec/43_dispatch_control.md) and on
the wrapped and printable keys (44_dispatch_keys.md R203, R206 to R208). -/

namespace Sys2Proof.Machine

/-! The latch, bit by bit (10_state.md R26). -/

/-- The mask of modifier `k` holds bit `k` alone. -/
theorem getLsbD_modMask (k : ModIdx) (i : Nat) : (1#8 <<< k.val).getLsbD i = decide (i = k.val) := by
  rw [← BitVec.twoPow_eq, BitVec.getLsbD_twoPow, decide_eq_true k.isLt, Bool.true_and]
  exact decide_eq_decide.mpr eq_comm

/-- `latchSet` sets bit `k` and keeps the others. -/
theorem getLsbD_latchSet (l : BitVec 8) (k : ModIdx) (i : Nat) :
    (latchSet l k).getLsbD i = if i = k.val then true else l.getLsbD i := by
  rw [latchSet, BitVec.getLsbD_or, getLsbD_modMask]
  by_cases h : i = k.val <;> simp [h]

/-- `latchClear` clears bit `k` and keeps the others. -/
theorem getLsbD_latchClear (l : BitVec 8) (k : ModIdx) (i : Nat) :
    (latchClear l k).getLsbD i = if i = k.val then false else l.getLsbD i := by
  rw [latchClear, BitVec.getLsbD_and, BitVec.getLsbD_not, getLsbD_modMask]
  by_cases h : i = k.val
  · simp [h]
  · rcases Nat.lt_or_ge i 8 with hi | hi
    · simp [h, hi]
    · simp [BitVec.getLsbD_of_ge l i hi]

/-! Usages as sums that fit in a byte (30_encoding.md R81). -/

theorem modKey_eq_ofNat (k : ModIdx) : modKey k = BitVec.ofNat 8 (0xE0 + k.val) := (BitVec.ofNat_add 0xE0 k.val).symm

theorem letterKey_eq_ofNat (j : Fin 26) : letterKey j = BitVec.ofNat 8 (0x04 + j.val) :=
  (BitVec.ofNat_add 0x04 j.val).symm

/-! What the modifier bytes do, by discipline, and the layer bytes with `FN_EN = 1` (43_dispatch_control.md R171, R172,
R174 to R176). -/

/-- A command emitted and the latch written: what a modifier byte's rule does. -/
theorem emitCmd_setLatch_eq (c : Cmd) (l : BitVec 8) (s : State) :
    (s.emitCmd c).setLatch l = { s with latch := l, out := { s.out with cmds := s.out.cmds ++ [c] } } := rfl

theorem exec_modp_pressRelease {s : State} (k : ModIdx) (h : s.cfg.modMode = .pressRelease) :
    exec (.modp k) s = .next ((s.emitCmd (.press (modKey k))).setLatch (latchSet s.latch k)) := by
  simp [exec, execModp, h]

theorem exec_modp_toggle {s : State} (k : ModIdx) (h : s.cfg.modMode = .toggle) :
    exec (.modp k) s = .next (if latchBit s.latch k
      then (s.emitCmd (.release (modKey k))).setLatch (latchClear s.latch k)
      else (s.emitCmd (.press (modKey k))).setLatch (latchSet s.latch k)) := by
  by_cases hbit : latchBit s.latch k <;> simp [exec, execModp, h, hbit]

theorem exec_modr_pressRelease {s : State} (k : ModIdx) (h : s.cfg.modMode = .pressRelease) :
    exec (.modr k) s = .next ((s.emitCmd (.release (modKey k))).setLatch (latchClear s.latch k)) := by
  simp [exec, execModr, h]

theorem exec_modr_toggle {s : State} (k : ModIdx) (h : s.cfg.modMode = .toggle) :
    exec (.modr k) s = .next (s.unknownByte (0x88 + BitVec.ofNat 8 k.val)) := by
  simp [exec, execModr, h]

theorem exec_fnon_of_fnEn {s : State} (h : s.cfg.fnEn = true) : exec .fnon s = .next (s.setFn true) := by
  simp [exec, execFnon, h]

theorem exec_fnoff_of_fnEn {s : State} (h : s.cfg.fnEn = true) : exec .fnoff s = .next (s.setFn false) := by
  simp [exec, execFnoff, h]

/-! The statements on control bytes. -/

/-- Settles O23: the byte decodes by `FN_EN`, and so does its meaning branch. -/
theorem layerOnByteSetsTheFlag : Obligations.LayerOnByteSetsTheFlag := by
  refine ⟨fun c => ?_, fun s hfn => ?_, fun s hfn => ?_⟩
  · cases hfn : c.fnEn <;> simp [decodePByte, classOf, hfn]
  · exact exec_fnon_of_fnEn hfn
  · simp [exec, execFnon, hfn, State.unknownByte, State.emitDiag]

/-- Settles O24: as for 0xB1. -/
theorem layerOffByteClearsTheFlag : Obligations.LayerOffByteClearsTheFlag := by
  refine ⟨fun c => ?_, fun s hfn => ?_, fun s hfn => ?_⟩
  · cases hfn : c.fnEn <;> simp [decodePByte, classOf, hfn]
  · exact exec_fnoff_of_fnEn hfn
  · simp [exec, execFnoff, hfn, State.unknownByte, State.emitDiag]

/-- Settles O25: the meaning is its four writes. -/
theorem emergencyClearReleasesEverything : Obligations.EmergencyClearReleasesEverything :=
  ⟨fun c => Laws.WordRoundTrip.eclr c rfl, fun _ => rfl⟩

/-- Settles O26: the new latch is `latchSet`. -/
theorem modifierPressLatches : Obligations.ModifierPressLatches := by
  refine ⟨fun c k => Laws.WordRoundTrip.modp k c rfl, fun s k hmode => ?_⟩
  refine ⟨latchSet s.latch k, ?_, getLsbD_latchSet s.latch k⟩
  rw [exec_modp_pressRelease k hmode, emitCmd_setLatch_eq, modKey_eq_ofNat]

/-- Settles O27: by the old bit, the new latch is `latchClear` or `latchSet`. -/
theorem modifierToggleFlipsTheLatch : Obligations.ModifierToggleFlipsTheLatch := by
  intro s k hmode
  rw [exec_modp_toggle k hmode]
  cases hbit : s.latch.getLsbD k.val
  · refine ⟨latchSet s.latch k, ?_, fun i => ?_⟩
    · simp only [latchBit, hbit, Bool.false_eq_true, if_false, emitCmd_setLatch_eq, modKey_eq_ofNat]
    · rw [getLsbD_latchSet]
      split <;> simp_all
  · refine ⟨latchClear s.latch k, ?_, fun i => ?_⟩
    · simp only [latchBit, hbit, if_true, emitCmd_setLatch_eq, modKey_eq_ofNat]
    · rw [getLsbD_latchClear]
      split <;> simp_all

/-- Settles O28: the new latch is `latchClear`, and in the toggle discipline the meaning is that of UNK. -/
theorem modifierReleaseUnlatches : Obligations.ModifierReleaseUnlatches := by
  refine ⟨fun c k hmode => ?_, fun s k hmode => ?_, fun s k hmode => ?_⟩
  · exact Laws.WordRoundTrip.modr k c (by simp [Instr.wf, hmode])
  · refine ⟨latchClear s.latch k, ?_, getLsbD_latchClear s.latch k⟩
    rw [exec_modr_pressRelease k hmode, emitCmd_setLatch_eq, modKey_eq_ofNat]
  · rw [exec_modr_toggle k hmode, BitVec.ofNat_add 0x88 k.val]
    rfl

/-- Settles O29: bit `k` is set and then cleared, and the two commands are appended in turn. -/
theorem pressThenReleasePairs : Obligations.PressThenReleasePairs := by
  intro s k hmode
  refine ⟨_, _, exec_modp_pressRelease k hmode, exec_modr_pressRelease k hmode, ?_, ?_, fun i hi => ?_⟩
  · simp
  · simp only [State.setLatch_latch, getLsbD_latchClear, if_true]
  · simp [getLsbD_latchClear, getLsbD_latchSet, hi]

/-! The keys that are wrapped in a modifier. -/

/-- A wrapped tap appends its four commands and writes nothing else (00_scope.md §5). -/
theorem State.wrapTap_eq (m : ModIdx) (key : Key) (s : State) :
    s.wrapTap m key = { s with out := { s.out with
      cmds := s.out.cmds ++ [.press (modKey m), .press key, .release key, .release (modKey m)] } } := by
  simp [State.wrapTap, State.tap, State.emitCmd]

/-- When a function key's byte is layered (44_dispatch_keys.md R203). -/
theorem exec_fkey_of_layered {n : Fin 12} {m : ModIdx} {s : State} (h : layerMod n s = some m) :
    exec (.fkey n) s = .next (s.wrapTap m (fkeyKey n)) := by
  simp only [exec, execFkey, h]

/-- A character with an entry is tapped, under L-Shift when the entry says so (R207). -/
theorem exec_print_of_some {i : Fin 95} {e : CharEntry} {s : State} (h : s.cfg.charTable[i] = some e) :
    exec (.print i) s = .next (if e.shift then s.wrapTap lShift e.key else s.tap e.key) := by
  have hread : readChar s.cfg i = some e := h
  simp only [exec, execPrint, hread]

/-- A character without an entry is requested from the layout service (R208). -/
theorem exec_print_of_none {i : Fin 95} {s : State} (h : s.cfg.charTable[i] = none) :
    exec (.print i) s = .next (s.emitCmd (.layout (charCode i))) := by
  have hread : readChar s.cfg i = none := h
  simp only [exec, execPrint, hread]

/-- Settles O32: the three conditions make the byte layered. -/
theorem layeredFunctionKeyIsWrapped : Obligations.LayeredFunctionKeyIsWrapped := by
  intro s n m hen hfn hmap
  have hlayer : layerMod n s = some m := by simpa [layerMod, hen, hfn, readFnMap] using hmap
  rw [exec_fkey_of_layered hlayer, State.wrapTap_eq, fkeyKey_eq_ofNat, modKey_eq_ofNat]

/-- Settles O34: the meaning is the tap of the letter wrapped in L-Ctrl. -/
theorem controlByteTapsTheLetterUnderCtrl : Obligations.ControlByteTapsTheLetterUnderCtrl := by
  refine ⟨fun c j => Laws.WordRoundTrip.ctrlchr j c rfl, fun s j => ?_⟩
  rw [← letterKey_eq_ofNat]
  exact congrArg Host.Outcome.next (State.wrapTap_eq lCtrl (letterKey j) s)

/-- Settles O35: by the table's entry. -/
theorem printableByteTypesItsCharacter : Obligations.PrintableByteTypesItsCharacter := by
  refine ⟨fun c i => Laws.WordRoundTrip.print i c rfl, fun c => Laws.WordRoundTrip.unk 0x7F c rfl,
    fun s i kc hchar => ?_, fun s i kc hchar => ?_, fun s i hchar => ?_⟩
  · rw [exec_print_of_some hchar]
    exact congrArg Host.Outcome.next (State.wrapTap_eq lShift kc s)
  · rw [exec_print_of_some hchar]
    exact congrArg Host.Outcome.next (State.tap_eq kc s)
  · exact exec_print_of_none hchar

end Sys2Proof.Machine
end

section
/-! SUPPORT. What a dispatched byte can write, class by class (spec/43_dispatch_control.md R179, 44_dispatch_keys.md
R211, R213): the one lemma that the statements on whole steps use of the dispatcher. -/

namespace Sys2Proof.Machine

/-- `s` with the commands `cs` appended and the diagnostic `d`: all that a key byte's rule writes. -/
def State.emits (cs : List Cmd) (d : Diag) (s : State) : State :=
  { s with out := { s.out with cmds := s.out.cmds ++ cs, diag := d } }

theorem State.emitCmd_eq_emits (c : Cmd) (s : State) : s.emitCmd c = s.emits [c] s.out.diag := rfl

theorem State.tap_eq_emits (k : Key) (s : State) : s.tap k = s.emits [.press k, .release k] s.out.diag := s.tap_eq k

theorem State.wrapTap_eq_emits (m : ModIdx) (k : Key) (s : State) :
    s.wrapTap m k = s.emits [.press (modKey m), .press k, .release k, .release (modKey m)] s.out.diag :=
  s.wrapTap_eq m k

theorem State.unknownByte_eq_emits (b : Byte) (s : State) : s.unknownByte b = s.emits [] (.unknown b) := by
  simp [State.unknownByte, State.emitDiag, State.emits]

theorem emits_same (cs : List Cmd) (d : Diag) (s : State) : SameButDispatcher s (s.emits cs d) :=
  ⟨rfl, rfl, rfl, rfl, rfl, rfl, rfl, rfl, rfl, rfl, rfl, rfl⟩

/-- Settles O38: each key byte's meaning is `emits`. -/
theorem keyBytesWriteOnlyOutputs : Obligations.KeyBytesWriteOnlyOutputs := by
  intro i s hkey
  suffices h : ∃ cs d, exec i s = .next (s.emits cs d) by
    obtain ⟨cs, d, h⟩ := h
    exact ⟨_, h, List.prefix_append _ _, rfl, rfl⟩
  cases i with
  | nav n => exact ⟨_, _, congrArg Host.Outcome.next (s.tap_eq_emits _)⟩
  | caps => exact ⟨_, _, congrArg Host.Outcome.next (s.tap_eq_emits _)⟩
  | ctrlchr j => exact ⟨_, _, congrArg Host.Outcome.next (s.wrapTap_eq_emits _ _)⟩
  | unk u => exact ⟨_, _, congrArg Host.Outcome.next (s.unknownByte_eq_emits u)⟩
  | fkey n =>
    cases hlayer : layerMod n s with
    | none => exact ⟨_, _, (exec_fkey_of_not_layered hlayer).trans (by rw [s.tap_eq_emits])⟩
    | some m => exact ⟨_, _, (exec_fkey_of_layered hlayer).trans (by rw [s.wrapTap_eq_emits])⟩
  | print i =>
    cases hchar : s.cfg.charTable[i] with
    | none => exact ⟨_, _, (exec_print_of_none hchar).trans (by rw [s.emitCmd_eq_emits])⟩
    | some e =>
      rw [exec_print_of_some hchar]
      split
      · exact ⟨_, _, by rw [s.wrapTap_eq_emits]⟩
      · exact ⟨_, _, by rw [s.tap_eq_emits]⟩
  | evNone | evZero | evOne | evReserved | modp k | modr k | eclr | fnon | fnoff => exact hkey.elim

/-- How many commands a byte emits, by its class (44_dispatch_keys.md R213). -/
def cmdCount (b : Byte) (s : State) : Nat :=
  match classOf s.cfg b with
  | .fnon | .fnoff | .unk => 0
  | .eclr | .modp | .modr => 1
  | .nav | .caps => 2
  | .ctrlchr => 4
  | .fkey => if (layerMod (operandFkey b) s).isSome then 4 else 2
  | .print =>
    match readChar s.cfg (operandC b) with
    | none => 1
    | some e => if e.shift then 4 else 2

theorem cmdCount_le (b : Byte) (s : State) : cmdCount b s ≤ 4 := by
  unfold cmdCount
  repeat' split
  all_goals omega

/-- What the byte `b`, dispatched in `s`, may write to reach `t`, with `cs` the commands it appends: who may change the
latch, the layer and the reset request (43_dispatch_control.md R179), how many commands there are and whether one of
them is `release_all()`. -/
structure DispatchEffect (b : Byte) (s t : State) (cs : List Cmd) : Prop where
  same       : SameButDispatcher s t
  cmds       : t.out.cmds = s.out.cmds ++ cs
  count      : cs.length = cmdCount b s
  releaseAll : .releaseAll ∈ cs ↔ b = 0x9E
  diag       : t.out.diag = s.out.diag ∨ t.out.diag = .unknown b
  latch      : t.latch ≠ s.latch → b = 0x9E ∨ 0x80 ≤ b ∧ b ≤ 0x8F
  fn         : t.fn ≠ s.fn → s.cfg.fnEn = true ∧ (b = 0xB1 ∨ b = 0xB2)
  req        : t.fdRstreq = true → s.fdRstreq = true ∨ b = 0x9E

/-- Only 0x9E is of class ECLR, so a byte of another class is another byte. -/
theorem ne_eclr_of_classOf {c : Config} {b : Byte} {cl : PClass} (h : classOf c b = cl) (hne : cl ≠ .eclr) :
    b ≠ 0x9E := by
  rintro rfl
  exact hne (h.symm.trans rfl)

section
variable {b : Byte} {s : State} {cs : List Cmd}

/-- The effect of a byte that only emits. -/
theorem DispatchEffect.of_emits {d : Diag} (hbyte : b ≠ 0x9E) (hrelease : .releaseAll ∉ cs)
    (hcount : cs.length = cmdCount b s) (hdiag : d = s.out.diag ∨ d = .unknown b) :
    DispatchEffect b s (s.emits cs d) cs where
  same := emits_same cs d s
  cmds := rfl
  count := hcount
  releaseAll := iff_of_false hrelease hbyte
  diag := hdiag
  latch := fun h => absurd rfl h
  fn := fun h => absurd rfl h
  req := Or.inl

/-- The effect of a modifier byte: one command, and the latch written. -/
theorem DispatchEffect.of_modifier {c : Cmd} {l : BitVec 8} (hbyte : 0x80 ≤ b ∧ b ≤ 0x8F) (hrelease : c ≠ .releaseAll)
    (hcount : cmdCount b s = 1) : DispatchEffect b s ((s.emitCmd c).setLatch l) [c] where
  same := (emitCmd_same c s).trans (setLatch_same l _)
  cmds := rfl
  count := hcount.symm
  releaseAll := by
    refine iff_of_false (by simpa using hrelease.symm) ?_
    rintro rfl
    exact absurd hbyte.2 (by decide)
  diag := .inl rfl
  latch := fun _ => .inr hbyte
  fn := fun h => absurd rfl h
  req := Or.inl

/-- The effect of a layer byte: the flag written, no command. -/
theorem DispatchEffect.of_layer {v : Bool} (hen : s.cfg.fnEn = true) (hbyte : b = 0xB1 ∨ b = 0xB2)
    (hcount : cmdCount b s = 0) : DispatchEffect b s (s.setFn v) [] where
  same := setFn_same v s
  cmds := (List.append_nil _).symm
  count := hcount.symm
  releaseAll := iff_of_false List.not_mem_nil (by rcases hbyte with rfl | rfl <;> decide)
  diag := .inl rfl
  latch := fun h => absurd rfl h
  fn := fun _ => ⟨hen, hbyte⟩
  req := Or.inl

end

/-- The effect of the emergency clear. -/
theorem DispatchEffect.of_eclr (s : State) :
    DispatchEffect 0x9E s (((s.emitCmd .releaseAll).setLatch 0x00).requestReset) [.releaseAll] where
  same := ((emitCmd_same _ s).trans (setLatch_same _ _)).trans (requestReset_same _)
  cmds := rfl
  count := rfl
  releaseAll := by simp
  diag := .inl rfl
  latch := fun _ => .inl rfl
  fn := fun h => absurd rfl h
  req := fun _ => .inr rfl

/-- Every byte completes with the effect of its class (44_dispatch_keys.md R211). -/
theorem dispatch_effect (b : Byte) (s : State) : ∃ t cs, dispatch b s = .next t ∧ DispatchEffect b s t cs := by
  rw [dispatch_eq_exec]
  unfold decodePByte
  cases hclass : classOf s.cfg b with
  | ctrlchr =>
    exact ⟨_, _, congrArg Host.Outcome.next (s.wrapTap_eq_emits _ _),
      .of_emits (ne_eclr_of_classOf hclass nofun) (by simp) (by simp [cmdCount, hclass]) (.inl rfl)⟩
  | print =>
    have hbyte := ne_eclr_of_classOf hclass nofun
    cases hchar : s.cfg.charTable[operandC b] with
    | none =>
      exact ⟨_, _, (exec_print_of_none hchar).trans (by rw [s.emitCmd_eq_emits]),
        .of_emits hbyte (by simp) (by simp [cmdCount, hclass, readChar, hchar]) (.inl rfl)⟩
    | some e =>
      cases hshift : e.shift with
      | false =>
        exact ⟨_, _, (exec_print_of_some hchar).trans (by rw [hshift, if_neg nofun, s.tap_eq_emits]),
          .of_emits hbyte (by simp) (by simp [cmdCount, hclass, readChar, hchar, hshift]) (.inl rfl)⟩
      | true =>
        exact ⟨_, _, (exec_print_of_some hchar).trans (by rw [hshift, if_pos rfl, s.wrapTap_eq_emits]),
          .of_emits hbyte (by simp) (by simp [cmdCount, hclass, readChar, hchar, hshift]) (.inl rfl)⟩
  | modp =>
    have hrange : 0x80 ≤ b ∧ b ≤ 0x87 := by simpa [PClass.covers] using covers_of_classOf hclass
    have hbyte : 0x80 ≤ b ∧ b ≤ 0x8F := ⟨hrange.1, BitVec.le_trans hrange.2 (by decide)⟩
    have hcount : cmdCount b s = 1 := by simp [cmdCount, hclass]
    cases hmode : s.cfg.modMode with
    | pressRelease => exact ⟨_, _, exec_modp_pressRelease _ hmode, .of_modifier hbyte nofun hcount⟩
    | toggle =>
      rw [exec_modp_toggle _ hmode]
      split
      · exact ⟨_, _, rfl, .of_modifier hbyte nofun hcount⟩
      · exact ⟨_, _, rfl, .of_modifier hbyte nofun hcount⟩
  | modr =>
    obtain ⟨hrange, hmode⟩ : (0x88 ≤ b ∧ b ≤ 0x8F) ∧ s.cfg.modMode = .pressRelease := by
      simpa [PClass.covers] using covers_of_classOf hclass
    exact ⟨_, _, exec_modr_pressRelease _ hmode,
      .of_modifier ⟨BitVec.le_trans (by decide) hrange.1, hrange.2⟩ nofun (by simp [cmdCount, hclass])⟩
  | nav =>
    exact ⟨_, _, congrArg Host.Outcome.next (s.tap_eq_emits _),
      .of_emits (ne_eclr_of_classOf hclass nofun) (by simp) (by simp [cmdCount, hclass]) (.inl rfl)⟩
  | eclr =>
    obtain rfl : b = 0x9E := by simpa [PClass.covers] using covers_of_classOf hclass
    exact ⟨_, _, rfl, .of_eclr s⟩
  | fkey =>
    have hbyte := ne_eclr_of_classOf hclass nofun
    cases hlayer : layerMod (operandFkey b) s with
    | none =>
      exact ⟨_, _, (exec_fkey_of_not_layered hlayer).trans (by rw [s.tap_eq_emits]),
        .of_emits hbyte (by simp) (by simp [cmdCount, hclass, hlayer]) (.inl rfl)⟩
    | some m =>
      exact ⟨_, _, (exec_fkey_of_layered hlayer).trans (by rw [s.wrapTap_eq_emits]),
        .of_emits hbyte (by simp) (by simp [cmdCount, hclass, hlayer]) (.inl rfl)⟩
  | caps =>
    exact ⟨_, _, congrArg Host.Outcome.next (s.tap_eq_emits _),
      .of_emits (ne_eclr_of_classOf hclass nofun) (by simp) (by simp [cmdCount, hclass]) (.inl rfl)⟩
  | fnon =>
    obtain ⟨hbyte, hen⟩ : b = 0xB1 ∧ s.cfg.fnEn = true := by simpa [PClass.covers] using covers_of_classOf hclass
    exact ⟨_, _, exec_fnon_of_fnEn hen, .of_layer hen (.inl hbyte) (by simp [cmdCount, hclass])⟩
  | fnoff =>
    obtain ⟨hbyte, hen⟩ : b = 0xB2 ∧ s.cfg.fnEn = true := by simpa [PClass.covers] using covers_of_classOf hclass
    exact ⟨_, _, exec_fnoff_of_fnEn hen, .of_layer hen (.inr hbyte) (by simp [cmdCount, hclass])⟩
  | unk =>
    exact ⟨_, _, congrArg Host.Outcome.next (s.unknownByte_eq_emits b),
      .of_emits (ne_eclr_of_classOf hclass nofun) (by simp) (by simp [cmdCount, hclass]) (.inr rfl)⟩

/-- Settles O37: the effect of the byte's class says which commands there are. -/
theorem dispatchIsTotalWithBoundedCommands : Obligations.DispatchIsTotalWithBoundedCommands := by
  intro b s
  obtain ⟨t, cs, hnext, heffect⟩ := dispatch_effect b s
  have hcount := heffect.count
  refine ⟨t, cs, hnext, dispatch_eq_exec b s ▸ hnext, heffect.cmds, hcount.trans_le (cmdCount_le b s), ?_⟩
  unfold cmdCount at hcount
  cases hclass : classOf s.cfg b <;> simp only [hclass] at hcount <;> exact hcount

end Sys2Proof.Machine
end

section
/-! SUPPORT. What the phases, a cycle and a step can do (spec/40_cycle.md R100 to R103, 42_frame_decoder.md R141 to
R153): one inversion lemma for each, which the statements on steps use. -/

namespace Sys2Proof.Machine

/-! The phases before the event. -/

/-- Outside RX the buffer is empty and there is a start symbol: what `fdInv` says of a waiting decoder. -/
theorem waiting_of_fdInv {s : State} (h : s.fdInv) :
    s.fdSt ≠ .rx → s.fdCnt = 0 ∧ s.fdBuf = 0 ∧ s.cfg.startEn = true := by
  obtain ⟨hempty, -, hrx⟩ := h
  intro hne
  exact ⟨(hempty hne).1, (hempty hne).2, Bool.eq_true_of_not_eq_false (hne ∘ hrx)⟩

/-! The idle state (R140). -/

theorem idleSt_ne_as1 (c : Config) : idleSt c ≠ .as1 := by
  unfold idleSt
  split <;> nofun

theorem idleSt_of_startEn {c : Config} (h : c.startEn = true) : idleSt c = .as0 := if_pos h

theorem idleSt_of_not_startEn {c : Config} (h : c.startEn = false) : idleSt c = .rx := by simp [idleSt, h]

/-- An idle decoder with an empty buffer has no timeout to take, however late it is. -/
theorem fdTimeoutPhase_of_idle {s : State} (hst : s.fdSt = idleSt s.cfg) (hcnt : s.fdCnt = 0) :
    s.fdTimeoutPhase = s := by
  rcases fdTimeoutPhase_cases s with h | ⟨has1, -⟩ | ⟨hen, hrx, -⟩ | ⟨-, hne, -⟩
  · exact h
  · exact absurd (hst.symm.trans has1) (idleSt_ne_as1 _)
  · rw [hst, idleSt_of_startEn hen] at hrx
    cases hrx
  · exact absurd hcnt hne

/-- A pending reset request is honoured and cleared, and no timeout follows it (R141). -/
theorem prepare_of_request {s : State} (h : s.fdRstreq = true) :
    s.prepare = { s.clearOut.goIdle with fdRstreq := false } := by
  have hreset : s.clearOut.fdResetPhase = { s.clearOut.goIdle with fdRstreq := false } := by
    simp [State.fdResetPhase, h]
  rw [State.prepare, hreset]
  exact fdTimeoutPhase_of_idle rfl rfl

/-- Without a request the phases are the timeout phase. -/
theorem prepare_of_no_request {s : State} (h : s.fdRstreq = false) : s.prepare = s.clearOut.fdTimeoutPhase := by
  simp [State.prepare, State.fdResetPhase, h]

/-- A timeout is due: in AS1 past `T_START`, or in RX past `T_IDLE`, where without a start symbol bits must be pending
(R142 to R144). -/
def State.timedOut (s : State) : Prop :=
  (s.fdSt = .as1 ∧ s.cfg.tStart < elapsed s.cfg.w s.port.now s.fdTref)
    ∨ (s.fdSt = .rx ∧ s.cfg.tIdle < elapsed s.cfg.w s.port.now s.fdTref ∧ (s.cfg.startEn = true ∨ s.fdCnt ≠ 0))

/-- The diagnostic of the timeout that is due. -/
def State.timeoutDiag (s : State) : Diag :=
  if s.fdSt = .as1 then .startTimeout else .frameTimeout (s.fdCnt.setWidth 8)

section
variable {s : State} (hwait : s.fdSt ≠ .rx → s.fdCnt = 0 ∧ s.fdBuf = 0 ∧ s.cfg.startEn = true)
  (hreq : s.fdRstreq = false)
include hwait hreq

/-- With no request and no timeout due, the phases only clear the outputs. -/
theorem prepare_of_not_timedOut (h : ¬ s.timedOut) : s.prepare = s.clearOut := by
  rw [prepare_of_no_request hreq]
  rcases fdTimeoutPhase_cases s.clearOut with hsame | ⟨hst, hlate, -⟩ | ⟨hen, hst, hlate, -⟩ | ⟨hen, hcnt, hlate, -⟩
  · exact hsame
  · exact absurd (.inl ⟨hst, hlate⟩) h
  · exact absurd (.inr ⟨hst, hlate, .inl hen⟩) h
  · have hst : s.fdSt = .rx := by
      by_contra hne
      exact hcnt (hwait hne).1
    exact absurd (.inr ⟨hst, hlate, .inr hcnt⟩) h

/-- A timeout that is due makes the decoder idle with its diagnostic, and writes nothing else. -/
theorem prepare_of_timedOut (h : s.timedOut) : s.prepare = (s.clearOut.emitDiag s.timeoutDiag).goIdle := by
  rw [prepare_of_no_request hreq]
  rcases h with ⟨hst, hlate⟩ | ⟨hst, hlate, hsome⟩
  · obtain ⟨hcnt, hbuf, hen⟩ := hwait (by simp [hst])
    simp [State.fdTimeoutPhase, expired, hst, hlate, State.timeoutDiag, State.emitDiag, State.clearOut, State.goIdle,
      hcnt, hbuf, idleSt_of_startEn hen]
  · cases hen : s.cfg.startEn with
    | true => simp [State.fdTimeoutPhase, expired, hst, hlate, hen, State.timeoutDiag]
    | false =>
      have hcnt : s.fdCnt ≠ 0#3 := hsome.resolve_left (by simp [hen])
      simp [State.fdTimeoutPhase, expired, hst, hlate, hen, hcnt, State.timeoutDiag, State.emitDiag, State.clearOut,
        State.goIdle, idleSt_of_not_startEn hen]

end

/-- Settles O10: a request, a timeout that is due, or neither. -/
theorem phasesBeforeTheEvent : Obligations.PhasesBeforeTheEvent := by
  intro s hinv e passed
  have hwait := waiting_of_fdInv hinv
  refine ⟨prepare_of_request, fun hreq hst => ?_, fun hreq hst hin => ?_, fun hreq hst hlate => ?_,
    fun hreq hst hin => ?_, fun hreq hst hen hcnt => ?_, fun hreq hst hlate hsome => ?_⟩
  · exact prepare_of_not_timedOut hwait hreq (by simp [State.timedOut, hst])
  · exact prepare_of_not_timedOut hwait hreq (by simpa [State.timedOut, hst] using hin)
  · rw [prepare_of_timedOut hwait hreq (.inl ⟨hst, hlate⟩)]
    obtain ⟨hcnt, hbuf, hen⟩ := hwait (by simp [hst])
    simp [e, State.timeoutDiag, hst, State.emitDiag, State.clearOut, State.goIdle, Outputs.empty, hcnt, hbuf,
      idleSt_of_startEn hen]
  · exact prepare_eq_clearOut s hreq (by simp [hst]) (fun _ => hin)
  · exact prepare_of_not_timedOut hwait hreq (by simp [State.timedOut, hst, hen, hcnt])
  · rw [prepare_of_timedOut hwait hreq (.inr ⟨hst, hlate, hsome⟩)]
    simp [e, State.timeoutDiag, hst, State.emitDiag, State.clearOut, State.goIdle, Outputs.empty, idleSt]

/-- A decoder that is in RX with bits after the phases was so before them: no request was pending and `T_IDLE` had not
passed. -/
theorem prepare_receiving {s : State} (hst : s.prepare.fdSt = .rx) (hcnt : s.prepare.fdCnt ≠ 0) :
    s.fdRstreq = false ∧ elapsed s.cfg.w s.port.now s.fdTref ≤ s.cfg.tIdle ∧ s.prepare = s.clearOut := by
  have hreq : s.fdRstreq = false := by
    by_contra hreq
    rw [prepare_of_request (Bool.eq_true_of_not_eq_false hreq)] at hcnt
    exact hcnt rfl
  have hsame : s.prepare = s.clearOut := by
    rw [prepare_of_no_request hreq] at hst hcnt ⊢
    rcases fdTimeoutPhase_cases s.clearOut with h | ⟨-, -, h⟩ | ⟨-, -, -, h⟩ | ⟨-, -, -, h⟩
    · exact h
    · rw [h] at hst
      cases hst
    · rw [h] at hcnt
      exact absurd rfl hcnt
    · rw [h] at hcnt
      exact absurd rfl hcnt
  refine ⟨hreq, ?_, hsame⟩
  rw [hsame] at hst hcnt
  by_contra hlate
  have hdue : s.prepare = (s.clearOut.emitDiag s.timeoutDiag).goIdle :=
    prepare_of_timedOut (absurd hst) hreq (.inr ⟨hst, not_le.mp hlate, .inr hcnt⟩)
  exact hcnt (congrArg State.fdCnt (hsame.symm.trans hdue))

/-- At the reference time itself no timeout is taken, so the phases leave no output. -/
theorem prepare_out_of_now {s : State} (h : elapsed s.cfg.w s.port.now s.fdTref = 0) :
    s.prepare.out = Outputs.empty := by
  cases hreq : s.fdRstreq with
  | true => rw [prepare_of_request hreq]; rfl
  | false => rw [prepare_eq_clearOut s hreq (by simp [h]) (by simp [h])]; rfl

/-! The event phase. -/

/-- The edge of the data bit `sym` (30_encoding.md R74). -/
abbrev edgeOf (sym : BitVec 1) : Instr := if sym = 0 then .evZero else .evOne

/-- An edge answers a next state in every decoder state. -/
theorem exec_edge_next (sym : BitVec 1) (s : State) : ∃ t, exec (edgeOf sym) s = .next t := by
  rcases execEdge_cases sym s with ⟨-, h⟩ | ⟨-, h⟩ | ⟨-, h⟩ | ⟨-, -, h⟩ | ⟨-, -, h⟩
  · exact ⟨_, h⟩
  · exact ⟨_, h⟩
  · exact ⟨_, h⟩
  · exact ⟨_, h⟩
  · obtain ⟨t, ht, -⟩ := dispatch_next (s.frameByte sym) (s.endFrame sym)
    exact ⟨t, h.trans ht⟩

/-- The events that are not refused. -/
inductive IsEvent : Instr → Prop
  | none : IsEvent .evNone
  | edge (sym : BitVec 1) : IsEvent (edgeOf sym)

theorem isEvent_evZero : IsEvent .evZero := .edge 0

theorem isEvent_evOne : IsEvent .evOne := .edge 1

/-- Every word but the reserved one is an event that is not refused (30_encoding.md R71). -/
theorem isEvent_decodeEvent {ev : BitVec 2} (h : ev ≠ 0b01) : IsEvent (decodeEvent ev) := by
  unfold decodeEvent
  split_ifs with h0 h2 h3
  · exact .none
  · exact isEvent_evZero
  · exact isEvent_evOne
  · exact absurd ((by decide : ∀ e : BitVec 2, e ≠ 0b00 → e ≠ 0b10 → e ≠ 0b11 → e = 0b01) ev h0 h2 h3) h

theorem IsEvent.next {i : Instr} (h : IsEvent i) (s : State) : ∃ t, exec i s = .next t := by
  cases h with
  | none => exact ⟨s, rfl⟩
  | edge sym => exact exec_edge_next sym s

/-- What a cycle without reset can do with the event `i` (42_frame_decoder.md R145 to R153): nothing after its phases,
enter AS1, enter RX, take a bit, or complete and dispatch a byte. -/
inductive CycleTo (i : Instr) (s : State) : State → Prop
  | phases : i ≠ .evZero → CycleTo i s s.prepare
  | start : s.prepare.fdSt ≠ .rx → CycleTo i s s.prepare.enterAs1
  | receive : i ≠ .evZero → s.prepare.fdSt = .as1 → CycleTo i s s.prepare.enterRx
  | bit (sym : BitVec 1) : s.prepare.fdSt = .rx → s.prepare.fdCnt ≠ 7 → CycleTo i s (s.prepare.pushBit sym)
  | byte (sym : BitVec 1) (t : State) (cs : List Cmd) : i = edgeOf sym → s.prepare.fdSt = .rx → s.prepare.fdCnt = 7 →
      DispatchEffect (s.prepare.frameByte sym) (s.prepare.endFrame sym) t cs → CycleTo i s t

/-- The inversion of a cycle's event. -/
theorem cycleTo_of_exec {i : Instr} {s t : State} (hi : IsEvent i) (h : exec i s.prepare = .next t) :
    CycleTo i s t := by
  cases hi with
  | none =>
    cases h
    exact .phases nofun
  | edge sym =>
    by_cases hst : s.prepare.fdSt = .rx
    · rw [execEdge_rx sym _ hst] at h
      by_cases hcnt : s.prepare.fdCnt = 7
      · rw [dataBit_full sym _ hcnt] at h
        obtain ⟨t', cs, ht', heffect⟩ := dispatch_effect (s.prepare.frameByte sym) (s.prepare.endFrame sym)
        cases ht'.symm.trans h
        exact .byte sym t cs rfl hst hcnt heffect
      · rw [dataBit_room sym _ hcnt] at h
        cases h
        exact .bit sym hst hcnt
    · rcases bit_cases sym with rfl | rfl
      · cases (execEvZero_waiting _ hst).symm.trans h
        exact .start hst
      · cases hwait : s.prepare.fdSt with
        | as0 =>
          cases (execEvOne_as0 _ hwait).symm.trans h
          exact .phases nofun
        | as1 =>
          cases (execEvOne_as1 _ hwait).symm.trans h
          exact .receive nofun hwait
        | rx => exact absurd hwait hst

/-- The fields that no cycle without reset writes. -/
structure CycleFrame (s t : State) : Prop where
  cfg    : t.cfg = s.cfg
  ls0    : t.ls0 = s.ls0
  ls1    : t.ls1 = s.ls1
  port   : t.port = s.port
  inputs : t.inputs = s.inputs

theorem CycleTo.frame {i : Instr} {s t : State} (h : CycleTo i s t) : CycleFrame s t := by
  have hp := prepare_same s
  cases h with
  | phases => exact ⟨hp.cfg, hp.ls0, hp.ls1, hp.port, hp.inputs⟩
  | start => exact ⟨hp.cfg, hp.ls0, hp.ls1, hp.port, hp.inputs⟩
  | receive => exact ⟨hp.cfg, hp.ls0, hp.ls1, hp.port, hp.inputs⟩
  | bit => exact ⟨hp.cfg, hp.ls0, hp.ls1, hp.port, hp.inputs⟩
  | byte sym _ cs _ _ _ heffect =>
    have hd := heffect.same
    exact ⟨hd.cfg.trans hp.cfg, hd.ls0.trans hp.ls0, hd.ls1.trans hp.ls1, hd.port.trans hp.port,
      hd.inputs.trans hp.inputs⟩

/-- A cycle leaves the reference time or writes the sampled time to it; the ZERO edge always writes it. -/
theorem CycleTo.fdTref {i : Instr} {s t : State} (h : CycleTo i s t) :
    (i ≠ .evZero ∧ t.fdTref = s.fdTref) ∨ t.fdTref = s.port.now := by
  have hp := prepare_same s
  cases h with
  | phases hi => exact .inl ⟨hi, hp.fdTref⟩
  | start => exact .inr (congrArg Input.now hp.port)
  | receive => exact .inr (congrArg Input.now hp.port)
  | bit => exact .inr (congrArg Input.now hp.port)
  | byte sym _ cs _ _ _ heffect => exact .inr (heffect.same.fdTref.trans (congrArg Input.now hp.port))

/-! A step. -/

/-- The state a step's first cycle starts from: the ports sampled and, in RAW mode, the sampler's state written. -/
def State.observe (s : State) : State :=
  match s.cfg.ifMode with
  | .edge => s.sample
  | .raw => s.sample.lsWrite

theorem observe_edge {s : State} (h : s.cfg.ifMode = .edge) : s.observe = s.sample := by simp [State.observe, h]

theorem observe_raw {s : State} (h : s.cfg.ifMode = .raw) : s.observe = s.sample.lsWrite := by simp [State.observe, h]

/-- Settles O9: the four lists of cycles a sample can ask for. -/
theorem rawStepRunsTheSampledEvents : Obligations.RawStepRunsTheSampledEvents := by
  intro s hvalid hmode hrst
  have hrun (i : Instr) : cycleWith exec i s.sample.lsWrite = exec i s.sample.lsWrite.prepare :=
    cycleWith_run exec i s.sample.lsWrite hrst
  rw [step_raw s hvalid hmode, rawStepWith]
  rcases rawCycles_cases s.sample with ⟨h0, h1, hlist⟩ | ⟨h0, h1, hlist⟩ | ⟨h0, h1, hlist⟩ | ⟨h0, h1, hlist⟩ <;>
    simp only [h0, h1, hlist, cyclesWith_one, hrun, true_implies, Bool.true_eq_false, Bool.false_eq_true,
      false_implies, and_true, true_and]
  obtain ⟨t, ht⟩ := isEvent_evZero.next s.sample.lsWrite.prepare
  obtain ⟨u, hu⟩ := isEvent_evOne.next t.prepare
  have hport := (cycleTo_of_exec isEvent_evZero ht).frame.port
  have hport' := (cycleTo_of_exec isEvent_evOne hu).frame.port
  have hrst' : t.port.rst = false := by rw [hport]; exact hrst
  refine ⟨t, u, ht, hu, congrArg Input.now hport'.symm, ?_⟩
  rw [cyclesWith_two exec _ _ _ t ((hrun _).trans ht), cycleWith_run exec _ t hrst', hu]
  rfl

/-- A step with `rst = 1` resets the sampled state, in either mode (70_reset_and_hazards.md R270, log entry 18). -/
theorem step_reset {s : State} (hvalid : s.cfg.valid = true) (hrst : s.sample.port.rst = true) :
    step s = .next s.sample.resetState := by
  cases hmode : s.cfg.ifMode with
  | edge => rw [step_edge s hvalid hmode, cycleWith_reset _ _ _ hrst]
  | raw =>
    have hone (i : Instr) : cycleWith exec i s.sample.lsWrite = .next s.sample.resetState :=
      cycleWith_reset exec i s.sample.lsWrite hrst
    have htwo : cycleWith exec .evOne s.sample.resetState = .next s.sample.resetState :=
      cycleWith_reset exec _ s.sample.resetState hrst
    rw [step_raw s hvalid hmode, rawStepWith]
    rcases rawCycles_cases s.sample with ⟨-, -, hlist⟩ | ⟨-, -, hlist⟩ | ⟨-, -, hlist⟩ | ⟨-, -, hlist⟩ <;> rw [hlist]
    · rw [cyclesWith_one, hone]
    · rw [cyclesWith_one, hone]
    · rw [cyclesWith_one, hone]
    · rw [cyclesWith_two exec _ _ _ _ (hone _), htwo]
      rfl

/-- A step in EDGE mode that answers a next state without reset is one cycle of the event it samples. -/
theorem step_edge_cycleTo {s t : State} (hmode : s.cfg.ifMode = .edge) (hrst : s.sample.port.rst = false)
    (h : step s = .next t) : CycleTo (decodeEvent s.sample.port.ev) s.sample t := by
  cases hvalid : s.cfg.valid with
  | false => cases (step_illegal s hvalid).symm.trans h
  | true =>
    rw [step_of_presents ⟨hvalid, hmode, hrst, rfl⟩] at h
    refine cycleTo_of_exec (isEvent_decodeEvent ?_) h
    intro hev
    rw [hev] at h
    cases h

/-- The inversion of a step: a reset; one cycle; or, in RAW mode, a ZERO and then a ONE cycle with their outputs
joined. -/
theorem step_cases {s t : State} (h : step s = .next t) :
    (s.sample.port.rst = true ∧ t = s.sample.resetState)
      ∨ (s.sample.port.rst = false ∧ ∃ i, CycleTo i s.observe t)
      ∨ (s.sample.port.rst = false ∧ ∃ u v, CycleTo .evZero s.observe u ∧ CycleTo .evOne u v
          ∧ t = { v with out := u.out.append v.out }) := by
  cases hvalid : s.cfg.valid with
  | false => cases (step_illegal s hvalid).symm.trans h
  | true =>
    cases hrst : s.sample.port.rst with
    | true =>
      cases (step_reset hvalid hrst).symm.trans h
      exact .inl ⟨rfl, rfl⟩
    | false =>
      refine .inr ?_
      simp only [true_and]
      cases hmode : s.cfg.ifMode with
      | edge =>
        rw [observe_edge hmode]
        exact .inl ⟨_, step_edge_cycleTo hmode hrst h⟩
      | raw =>
        rw [observe_raw hmode]
        obtain ⟨hnone, hzero, hone, hboth⟩ := rawStepRunsTheSampledEvents s hvalid hmode hrst
        cases h0 : s.sample.sampleZero.2 <;> cases h1 : s.sample.sampleOne.2
        · exact .inl ⟨_, cycleTo_of_exec .none ((hnone h0 h1).symm.trans h)⟩
        · exact .inl ⟨_, cycleTo_of_exec isEvent_evOne ((hone h0 h1).symm.trans h)⟩
        · exact .inl ⟨_, cycleTo_of_exec isEvent_evZero ((hzero h0 h1).symm.trans h)⟩
        · obtain ⟨u, v, hu, hv, -, hstep⟩ := hboth h0 h1
          cases hstep.symm.trans h
          exact .inr ⟨u, v, cycleTo_of_exec isEvent_evZero hu, cycleTo_of_exec isEvent_evOne hv, rfl⟩

/-! The statements. -/

/-- Settles O2: the step is the reset of the sampled state. -/
theorem resetCycleResetsEverythingInSilence : Obligations.ResetCycleResetsEverythingInSilence :=
  fun _ hvalid hrst => ⟨_, step_reset hvalid hrst, rfl, rfl, rfl, rfl, rfl, rfl, rfl, rfl, rfl, rfl, rfl, rfl⟩

/-- Settles O8: an EDGE step without reset is its phases and its event. -/
theorem stepRunsThePresentedEvent : Obligations.StepRunsThePresentedEvent := fun _ _ hev => step_of_presents hev

/-- Settles O11: the frame's byte is dispatched from the state that the frame's end leaves. -/
theorem completedFrameRunsItsByte : Obligations.CompletedFrameRunsItsByte := by
  intro s sym hst hcnt
  refine ⟨s.frameByte sym, _, frameByte_toNat sym s, rfl, ?_⟩
  rw [execEdge_rx sym s hst, dataBit_full sym s hcnt, dispatch_eq_exec]
  rfl

/-- Settles O13: by the definition of the event's meaning. -/
theorem noEventChangesNothing : Obligations.NoEventChangesNothing := fun _ => rfl

/-- Settles O21: the step is `exec` of the reserved event. -/
theorem reservedEventIsRefused : Obligations.ReservedEventIsRefused :=
  ⟨fun _ => rfl, fun _ hev => step_of_presents hev⟩

/-- Settles O22: the four conditions are those of `Config.valid`. -/
theorem illegalConfigurationIsRefused : Obligations.IllegalConfigurationIsRefused := by
  intro s hbad
  refine step_illegal s (Bool.eq_false_iff.mpr fun hvalid => hbad ?_)
  simp only [Config.valid, Bool.and_eq_true, Bool.or_eq_true, decide_eq_true_eq, beq_iff_eq] at hvalid
  obtain ⟨⟨⟨hpos, hlt⟩, hmax⟩, hdb⟩ := hvalid
  exact ⟨hpos, hlt, hmax, fun hraw => hdb.resolve_left (by simp [hraw])⟩

/-- Settles O41: a reset, an event that is not refused, or the cycles of a RAW sample. -/
theorem theBlockNeverHalts : Obligations.TheBlockNeverHalts := by
  intro s hvalid hev
  cases hrst : s.sample.port.rst with
  | true => exact ⟨_, step_reset hvalid hrst⟩
  | false =>
    cases hmode : s.cfg.ifMode with
    | edge =>
      rw [step_of_presents ⟨hvalid, hmode, hrst, rfl⟩]
      exact (isEvent_decodeEvent (hev hmode hrst)).next s.sample.prepare
    | raw =>
      obtain ⟨hnone, hzero, hone, hboth⟩ := rawStepRunsTheSampledEvents s hvalid hmode hrst
      cases h0 : s.sample.sampleZero.2 <;> cases h1 : s.sample.sampleOne.2
      · exact ⟨_, hnone h0 h1⟩
      · rw [hone h0 h1]
        exact isEvent_evOne.next _
      · rw [hzero h0 h1]
        exact isEvent_evZero.next _
      · obtain ⟨t, u, -, -, -, hstep⟩ := hboth h0 h1
        exact ⟨_, hstep⟩

end Sys2Proof.Machine
end

section
/-! SUPPORT. What every step keeps (spec/10_state.md R35, R36, 40_cycle.md R104, 42_frame_decoder.md R154): each
statement is proved of one cycle and carried over the join of a RAW step's two cycles (log entry 4). -/

namespace Sys2Proof.Machine

/-! The outputs of one cycle. -/

/-- A cycle without a byte shows what its phases left. -/
theorem CycleTo.out_eq {i : Instr} {s t : State} (h : CycleTo i s t) (hbyte : t.out.byteV = false) :
    t.out = s.prepare.out := by
  cases h with
  | phases => rfl
  | start => rfl
  | receive => rfl
  | bit => rfl
  | byte sym _ cs _ _ _ heffect => cases heffect.same.byteV.symm.trans hbyte

/-- A cycle with a byte: seven bits were in RX, no timeout was taken, and the byte's effect follows. -/
theorem CycleTo.of_byteV {i : Instr} {s t : State} (h : CycleTo i s t) (hbyte : t.out.byteV = true) :
    ∃ sym cs, i = edgeOf sym ∧ s.prepare = s.clearOut ∧ s.fdSt = .rx ∧ s.fdCnt = 7
      ∧ DispatchEffect t.out.byteO (s.clearOut.endFrame sym) t cs ∧ t.out.byteO = s.clearOut.frameByte sym := by
  have hnone := (prepare_out s).2.1
  cases h with
  | phases => cases hnone.symm.trans hbyte
  | start => cases hnone.symm.trans hbyte
  | receive => cases hnone.symm.trans hbyte
  | bit => cases hnone.symm.trans hbyte
  | byte sym _ cs hi hst hcnt heffect =>
    obtain ⟨-, -, hsame⟩ := prepare_receiving hst (by simp [hcnt])
    rw [hsame] at hst hcnt heffect
    have hbyteO : t.out.byteO = s.clearOut.frameByte sym := heffect.same.byteO
    exact ⟨sym, cs, hi, hsame, hst, hcnt, hbyteO ▸ heffect, hbyteO⟩

/-- What it says of a decoder that it is idle (42_frame_decoder.md R140). -/
theorem isIdle_iff (s : State) : s.isIdle = true ↔ s.fdSt = idleSt s.cfg ∧ s.fdCnt = 0 ∧ s.fdBuf = 0 := by
  simp [State.isIdle, and_assoc]

/-- A decoder that formed a byte is idle. -/
theorem DispatchEffect.isIdle {b : Byte} {sym : BitVec 1} {s t : State} {cs : List Cmd}
    (h : DispatchEffect b (s.endFrame sym) t cs) : t.isIdle = true := by
  rw [isIdle_iff, h.same.cfg]
  exact ⟨h.same.fdSt, h.same.fdCnt, h.same.fdBuf⟩

/-- What the outputs of a step show (40_cycle.md R104). -/
structure Outputs.Bounded (o : Outputs) : Prop where
  length  : o.cmds.length ≤ 4
  silent  : o.byteV = false → o.cmds = [] ∧ o.byteO = 0
  shown   : o.byteV = true → o.diag = .none ∨ o.diag = .unknown o.byteO
  unknown : o.byteV = false → ∀ b, o.diag ≠ .unknown b

theorem bounded_empty : Outputs.empty.Bounded := ⟨by decide, fun _ => ⟨rfl, rfl⟩, nofun, fun _ _ => nofun⟩

theorem CycleTo.bounded {i : Instr} {s t : State} (h : CycleTo i s t) : t.out.Bounded := by
  obtain ⟨hcmds, -, hbyteO, hdiag⟩ := prepare_out s
  cases hbyte : t.out.byteV with
  | false =>
    rw [h.out_eq hbyte]
    exact ⟨by simp [hcmds], fun _ => ⟨hcmds, hbyteO⟩, fun hv => by simp [prepare_out s] at hv, fun _ => hdiag⟩
  | true =>
    obtain ⟨sym, cs, -, -, -, -, heffect, -⟩ := h.of_byteV hbyte
    have hlength : t.out.cmds.length ≤ 4 := by
      rw [heffect.cmds]
      exact heffect.count.trans_le (cmdCount_le _ _)
    exact ⟨hlength, by simp [hbyte], fun _ => heffect.diag, by simp [hbyte]⟩

/-- With neither byte nor diagnostic a cycle's outputs are empty. -/
theorem Outputs.Bounded.eq_empty {o : Outputs} (h : o.Bounded) (hbyte : o.byteV = false) (hdiag : o.diag = .none) :
    o = Outputs.empty := by
  obtain ⟨hcmds, hbyteO⟩ := h.silent hbyte
  cases o
  simp_all [Outputs.empty]

theorem Outputs.Bounded.append_empty {o : Outputs} (h : o.Bounded) : o.append Outputs.empty = o := by
  have hdiag : (if o.diag = .none then Diag.none else o.diag) = o.diag := by
    split
    · next hnone => exact hnone.symm
    · rfl
  have hbyteO : (if o.byteV then o.byteO else 0) = o.byteO := by
    cases hbyte : o.byteV with
    | false => exact (h.silent hbyte).2.symm
    | true => rfl
  simp only [Outputs.append, Outputs.empty, List.append_nil, Bool.or_false, hdiag, hbyteO]

/-! The two cycles of a RAW step with two accepted edges. -/

/-- After a ZERO cycle that formed a byte or took a timeout, the ONE cycle at the same time emits nothing: the ZERO edge
wrote `fd_tref`, so no timeout is due, and fewer than seven bits are left (40_cycle.md R104). -/
theorem second_cycle_silent {s u v : State} (hnow : s.port.now < 2 ^ s.cfg.w) (hu : CycleTo .evZero s u)
    (hv : CycleTo .evOne u v) (hnoisy : u.out.byteV = true ∨ u.out.diag ≠ .none) : v.out = Outputs.empty := by
  have htref : u.fdTref = u.port.now := by
    rw [hu.frame.port]
    exact hu.fdTref.resolve_left fun h => h.1 rfl
  have helapsed : elapsed u.cfg.w u.port.now u.fdTref = 0 := by
    rw [htref, hu.frame.cfg, hu.frame.port]
    exact elapsed_self _ _ hnow
  cases hbyte : v.out.byteV with
  | false => rw [hv.out_eq hbyte, prepare_out_of_now helapsed]
  | true =>
    obtain ⟨-, -, -, -, hst, hcnt, -⟩ := hv.of_byteV hbyte
    cases hu with
    | phases hi => exact absurd rfl hi
    | start => cases hst
    | receive hi => exact absurd rfl hi
    | bit sym hrx =>
      have hsome : s.prepare.fdCnt ≠ 0 := by
        intro h
        rw [State.pushBit_fdCnt, h] at hcnt
        cases hcnt
      obtain ⟨-, -, hsame⟩ := prepare_receiving hrx hsome
      rw [hsame] at hnoisy
      simp [Outputs.empty] at hnoisy
    | byte sym _ cs _ _ _ heffect =>
      cases heffect.same.fdCnt.symm.trans hcnt

/-- So at most one of the two cycles has outputs, and the joined outputs are that one's. -/
theorem joined_out {s u v : State} (hnow : s.port.now < 2 ^ s.cfg.w) (hu : CycleTo .evZero s u)
    (hv : CycleTo .evOne u v) :
    (v.out = Outputs.empty ∧ u.out.append v.out = u.out) ∨ (u.out = Outputs.empty ∧ u.out.append v.out = v.out) := by
  by_cases hnoisy : u.out.byteV = true ∨ u.out.diag ≠ .none
  · have hsilent := second_cycle_silent hnow hu hv hnoisy
    exact .inl ⟨hsilent, by rw [hsilent, hu.bounded.append_empty]⟩
  · simp only [not_or, Bool.not_eq_true, not_not] at hnoisy
    have hempty := hu.bounded.eq_empty hnoisy.1 hnoisy.2
    exact .inr ⟨hempty, by rw [hempty, Outputs.empty_append]⟩

/-- The sampled time is `W` bits wide. -/
theorem observe_now_lt (s : State) : s.observe.port.now < 2 ^ s.observe.cfg.w := by
  unfold State.observe
  split <;> exact Nat.mod_lt _ (Nat.two_pow_pos _)

/-- A step's outputs are within R104's bounds. -/
theorem step_bounded {s t : State} (h : step s = .next t) : t.out.Bounded := by
  rcases step_cases h with ⟨-, rfl⟩ | ⟨-, i, hc⟩ | ⟨-, u, v, hu, hv, rfl⟩
  · exact bounded_empty
  · exact hc.bounded
  · show (u.out.append v.out).Bounded
    rcases joined_out (observe_now_lt s) hu hv with ⟨-, hout⟩ | ⟨-, hout⟩ <;> rw [hout]
    · exact hu.bounded
    · exact hv.bounded

/-- Settles O42: every cycle is within the bounds, and of two cycles only one has outputs. -/
theorem stepOutputsAreBounded : Obligations.StepOutputsAreBounded := by
  refine ⟨fun s t h => ?_, fun s t u _ hmode _ _ _ ht hu hnoisy => ?_⟩
  · have hb := step_bounded h
    exact ⟨hb.length, fun hbyte => (hb.silent hbyte).1, hb.shown, hb.unknown⟩
  · have hnow := observe_now_lt s
    rw [observe_raw hmode] at hnow
    exact second_cycle_silent hnow (cycleTo_of_exec isEvent_evZero ht) (cycleTo_of_exec isEvent_evOne hu) hnoisy

/-! Who may change the dispatcher's state. -/

/-- The clauses of 10_state.md R36 and 43_dispatch_control.md R179, from `s` to `t`. -/
structure OnlyTheirBytes (s t : State) : Prop where
  latch      : t.latch ≠ s.latch → t.out.byteV = true ∧ (t.out.byteO = 0x9E ∨ (0x80 ≤ t.out.byteO ∧ t.out.byteO ≤ 0x8F))
  fn         : t.fn ≠ s.fn → t.out.byteV = true ∧ s.cfg.fnEn = true ∧ (t.out.byteO = 0xB1 ∨ t.out.byteO = 0xB2)
  req        : t.fdRstreq = true → t.out.byteV = true ∧ t.out.byteO = 0x9E
  releaseAll : .releaseAll ∈ t.out.cmds ↔ t.out.byteV = true ∧ t.out.byteO = 0x9E

/-- Without a byte a cycle leaves the dispatcher's state alone. -/
theorem CycleTo.quiet {i : Instr} {s t : State} (h : CycleTo i s t) (hbyte : t.out.byteV = false) :
    t.latch = s.latch ∧ t.fn = s.fn ∧ t.fdRstreq = false := by
  have hp := prepare_same s
  have hreq := prepare_fdRstreq s
  cases h with
  | phases => exact ⟨hp.latch, hp.fn, hreq⟩
  | start => exact ⟨hp.latch, hp.fn, hreq⟩
  | receive => exact ⟨hp.latch, hp.fn, hreq⟩
  | bit => exact ⟨hp.latch, hp.fn, hreq⟩
  | byte sym _ cs _ _ _ heffect => cases heffect.same.byteV.symm.trans hbyte

theorem CycleTo.onlyTheirBytes {i : Instr} {s t : State} (h : CycleTo i s t) : OnlyTheirBytes s t := by
  cases hbyte : t.out.byteV with
  | false =>
    obtain ⟨hlatch, hfn, hreq⟩ := h.quiet hbyte
    have hcmds := (h.bounded.silent hbyte).1
    exact ⟨fun hne => absurd hlatch hne, fun hne => absurd hfn hne, fun htrue => by simp [hreq] at htrue,
      by simp [hcmds, hbyte]⟩
  | true =>
    obtain ⟨sym, cs, -, hsame, -, -, heffect, -⟩ := h.of_byteV hbyte
    have hnoreq : s.fdRstreq = false := by
      have hreq := prepare_fdRstreq s
      rwa [hsame] at hreq
    refine ⟨fun hne => ⟨hbyte, heffect.latch hne⟩, fun hne => ⟨hbyte, heffect.fn hne⟩, fun htrue => ⟨hbyte, ?_⟩, ?_⟩
    · exact (heffect.req htrue).resolve_left (by simp [hnoreq])
    · rw [heffect.cmds]
      simp [Outputs.empty, heffect.releaseAll, hbyte]

/-- Settles O43: of one cycle; and of two, of which one forms no byte and so changes nothing. -/
theorem onlyTheirBytesChangeLatchAndLayer : Obligations.OnlyTheirBytesChangeLatchAndLayer := by
  intro s t h hrst
  suffices h : OnlyTheirBytes s.observe t by
    have hcfg : s.observe.latch = s.latch ∧ s.observe.fn = s.fn ∧ s.observe.cfg = s.cfg := by
      unfold State.observe
      split <;> exact ⟨rfl, rfl, rfl⟩
    obtain ⟨hlatch, hfn, hcfg⟩ := hcfg
    exact ⟨hlatch ▸ h.latch, hfn ▸ hcfg ▸ h.fn, h.req, h.releaseAll⟩
  rcases step_cases h with ⟨hreset, -⟩ | ⟨-, i, hc⟩ | ⟨-, u, v, hu, hv, rfl⟩
  · cases hreset.symm.trans hrst
  · exact hc.onlyTheirBytes
  · rcases joined_out (observe_now_lt s) hu hv with ⟨hsilent, hout⟩ | ⟨hsilent, hout⟩ <;> rw [hout]
    · obtain ⟨hlatch, hfn, hreq⟩ := hv.quiet (by rw [hsilent]; rfl)
      have h := hu.onlyTheirBytes
      exact ⟨fun hne => h.latch (hlatch ▸ hne), fun hne => h.fn (hfn ▸ hne), fun htrue => by simp [hreq] at htrue,
        h.releaseAll⟩
    · obtain ⟨hlatch, hfn, -⟩ := hu.quiet (by rw [hsilent]; rfl)
      have h := hv.onlyTheirBytes
      exact ⟨fun hne => h.latch (hlatch ▸ hne), fun hne => hu.frame.cfg ▸ h.fn (hfn ▸ hne), h.req, h.releaseAll⟩

end Sys2Proof.Machine
end

section
/-! SUPPORT. The invariant of the block (spec/10_state.md R35) and what steps leave to the sampler and the host
(R30, R36, 00_scope.md R6). -/

namespace Sys2Proof.Machine

/-! The decoder's part of the invariant, phase by phase. -/

/-- An idle decoder with an empty buffer has the decoder's invariant. -/
theorem fdInv_of_idle {s : State} (hst : s.fdSt = idleSt s.cfg) (hcnt : s.fdCnt = 0) (hbuf : s.fdBuf = 0) :
    s.fdInv := by
  refine ⟨fun _ => ⟨hcnt, hbuf⟩, ?_, fun hen => hst.trans (idleSt_of_not_startEn hen)⟩
  simp [hcnt, hbuf]

theorem prepare_fdInv {s : State} (h : s.fdInv) : s.prepare.fdInv := by
  cases hreq : s.fdRstreq with
  | true =>
    rw [prepare_of_request hreq]
    exact fdInv_of_idle rfl rfl rfl
  | false =>
    by_cases hdue : s.timedOut
    · rw [prepare_of_timedOut (waiting_of_fdInv h) hreq hdue]
      exact fdInv_of_idle rfl rfl rfl
    · rw [prepare_of_not_timedOut (waiting_of_fdInv h) hreq hdue]
      exact h

theorem CycleTo.fdInv {i : Instr} {s t : State} (h : CycleTo i s t) (hinv : s.fdInv) : t.fdInv := by
  have hp := prepare_fdInv hinv
  cases h with
  | phases => exact hp
  | start hst =>
    obtain ⟨hcnt, hbuf, hen⟩ := waiting_of_fdInv hp hst
    obtain ⟨-, hlt, -⟩ := hp
    exact ⟨fun _ => ⟨hcnt, hbuf⟩, hlt, fun hoff => by simp [hen] at hoff⟩
  | receive => exact ⟨fun hne => absurd rfl hne, by simp, fun _ => rfl⟩
  | bit sym hst hcnt =>
    obtain ⟨-, hbuf, hrx⟩ := hp
    have hroom : s.prepare.fdCnt.toNat < 7 := by
      have := s.prepare.fdCnt.isLt
      have : s.prepare.fdCnt.toNat ≠ 7 := fun heq => hcnt (BitVec.eq_of_toNat_eq heq)
      omega
    refine ⟨fun hne => absurd hst hne, ?_, hrx⟩
    rw [pushBit_fdBuf_toNat sym _ hbuf hroom, pushBit_fdCnt_toNat sym _ hroom, pow_succ]
    have := sym.isLt
    omega
  | byte sym _ cs _ _ _ heffect =>
    have hd := heffect.same
    exact fdInv_of_idle (hd.fdSt.trans (congrArg idleSt hd.cfg.symm)) hd.fdCnt hd.fdBuf

/-- The invariant but for the clause on the reset request, which reads the outputs. -/
structure State.CoreInv (s : State) : Prop where
  decoder : s.fdInv
  layer   : s.cfg.fnEn = false → s.fn = false
  sampler : s.lsInv
  time    : s.timeInv

/-- The clause of 10_state.md R35 on the reset request. -/
def State.RequestInv (s : State) : Prop :=
  s.fdRstreq = true → s.isIdle = true ∧ s.out.byteV = true ∧ s.out.byteO = 0x9E

theorem inv_iff (s : State) : s.Inv ↔ s.CoreInv ∧ s.RequestInv := by
  constructor
  · rintro ⟨hfd, ⟨hfn, hreq⟩, hls, htime⟩
    exact ⟨⟨hfd, hfn, hls, htime⟩, hreq⟩
  · rintro ⟨⟨hfd, hfn, hls, htime⟩, hreq⟩
    exact ⟨hfd, ⟨hfn, hreq⟩, hls, htime⟩

theorem CycleTo.coreInv {i : Instr} {s t : State} (h : CycleTo i s t) (hinv : s.CoreInv) : t.CoreInv := by
  obtain ⟨hcfg, hls0, hls1, hport, -⟩ := h.frame
  obtain ⟨htref, hl0, hl1, hnow⟩ := hinv.time
  refine ⟨h.fdInv hinv.decoder, fun hoff => ?_, ?_, ?_⟩
  · rw [hcfg] at hoff
    by_contra hfn
    have hne : t.fn ≠ s.fn := by rwa [hinv.layer hoff]
    obtain ⟨-, hen, -⟩ := h.onlyTheirBytes.fn hne
    cases hoff.symm.trans hen
  · rw [State.lsInv, hcfg, hls0, hls1]
    exact hinv.sampler
  · rw [State.timeInv, hcfg, hls0, hls1, hport]
    rcases h.fdTref with ⟨-, heq⟩ | heq
    · exact ⟨heq ▸ htref, hl0, hl1, hnow⟩
    · exact ⟨heq ▸ hnow, hl0, hl1, hnow⟩

theorem CycleTo.requestInv {i : Instr} {s t : State} (h : CycleTo i s t) : t.RequestInv := by
  intro hreq
  obtain ⟨hbyte, hbyteO⟩ := h.onlyTheirBytes.req hreq
  obtain ⟨sym, cs, -, -, -, -, heffect, -⟩ := h.of_byteV hbyte
  exact ⟨heffect.isIdle, hbyte, hbyteO⟩

/-- A line's sample keeps the time of the last change or writes the sampled time (41_line_sampler.md R120). -/
theorem lineSample_tchg_lt {c : Config} {now n : Nat} (level : Bool) {l : LineState} (hl : l.tchg < n)
    (hnow : now < n) : (l.sample c now level).1.tchg < n := by
  rcases lineSample_cases c now level l with ⟨-, h⟩ | ⟨-, -, -, h⟩ | ⟨-, -, h⟩ <;> rw [h]
  · exact hnow
  · exact hl
  · exact hl

/-- Sampling the ports, and in RAW mode the lines, keeps the invariant. -/
theorem observe_coreInv {s : State} (h : s.CoreInv) : s.observe.CoreInv := by
  obtain ⟨htref, hl0, hl1, -⟩ := h.time
  have hnow : s.sample.port.now < 2 ^ s.cfg.w := Nat.mod_lt _ (Nat.two_pow_pos _)
  cases hmode : s.cfg.ifMode with
  | edge =>
    rw [observe_edge hmode]
    exact ⟨h.decoder, h.layer, h.sampler, htref, hl0, hl1, hnow⟩
  | raw =>
    rw [observe_raw hmode]
    refine ⟨h.decoder, h.layer, fun hedge => ?_, htref, ?_, ?_, hnow⟩
    · cases hmode.symm.trans hedge
    · exact lineSample_tchg_lt _ hl0 hnow
    · exact lineSample_tchg_lt _ hl1 hnow

theorem resetState_inv (s : State) (h : s.port.now < 2 ^ s.cfg.w) : s.resetState.Inv :=
  ⟨fdInv_of_idle rfl rfl rfl, ⟨fun _ => rfl, nofun⟩, fun _ => ⟨rfl, rfl⟩,
    Nat.two_pow_pos _, Nat.two_pow_pos _, Nat.two_pow_pos _, h⟩

/-- Settles O39: a reset establishes the invariant, a cycle keeps it, and the outputs that two cycles join are those of
the one that can have formed 0x9E. -/
theorem everyStepKeepsTheStateInvariant : Obligations.EveryStepKeepsTheStateInvariant := by
  intro s t hinv h
  have hcore := observe_coreInv ((inv_iff s).mp hinv).1
  rcases step_cases h with ⟨-, rfl⟩ | ⟨-, i, hc⟩ | ⟨-, u, v, hu, hv, rfl⟩
  · exact resetState_inv s.sample (Nat.mod_lt _ (Nat.two_pow_pos _))
  · exact (inv_iff t).mpr ⟨hc.coreInv hcore, hc.requestInv⟩
  · obtain ⟨hfd, hfn, hls, htime⟩ := hv.coreInv (hu.coreInv hcore)
    refine (inv_iff _).mpr ⟨⟨hfd, hfn, hls, htime⟩, ?_⟩
    rcases joined_out (observe_now_lt s) hu hv with ⟨hsilent, -⟩ | ⟨-, hout⟩
    · intro hreq
      obtain ⟨-, -, hnoreq⟩ := hv.quiet (by rw [hsilent]; rfl)
      cases hnoreq.symm.trans hreq
    · rw [hout]
      exact hv.requestInv

/-- Settles O40: the reset state is its own reset at time 0. -/
theorem resetStateHasTheStateInvariant : Obligations.ResetStateHasTheStateInvariant :=
  resetState_inv State.reset (by decide)

/-! What a step takes and what it leaves to the sampler. -/

/-- A step without reset keeps the parameters, the lines and the host's inputs as its sampling left them. -/
theorem step_frame {s t : State} (h : step s = .next t) (hrst : s.sample.port.rst = false) :
    CycleFrame s.observe t := by
  rcases step_cases h with ⟨hreset, -⟩ | ⟨-, i, hc⟩ | ⟨-, u, v, hu, hv, rfl⟩
  · cases hreset.symm.trans hrst
  · exact hc.frame
  · obtain ⟨hcfg, hls0, hls1, hport, hinputs⟩ := hu.frame
    have hf := hv.frame
    exact ⟨hf.cfg.trans hcfg, hf.ls0.trans hls0, hf.ls1.trans hls1, hf.port.trans hport, hf.inputs.trans hinputs⟩

/-- Settles O45: a reset keeps the parameters and the inputs, and any other step keeps what `observe` left. -/
theorem parametersAndSamplerKeepToThemselves : Obligations.ParametersAndSamplerKeepToThemselves := by
  intro s t h
  have hobserve : s.observe.cfg = s.cfg ∧ s.observe.inputs = s.inputs.tail := by
    unfold State.observe
    split <;> exact ⟨rfl, rfl⟩
  have hkept : t.cfg = s.cfg ∧ t.inputs = s.inputs.tail := by
    rcases step_cases h with ⟨-, rfl⟩ | ⟨hrst, -⟩ | ⟨hrst, -⟩
    · exact ⟨rfl, rfl⟩
    · exact ⟨(step_frame h hrst).cfg.trans hobserve.1, (step_frame h hrst).inputs.trans hobserve.2⟩
    · exact ⟨(step_frame h hrst).cfg.trans hobserve.1, (step_frame h hrst).inputs.trans hobserve.2⟩
  refine ⟨hkept.1, hkept.2, fun hrst hmode => ?_, fun hrst hmode => ?_⟩
  · have hf := step_frame h hrst
    rw [observe_edge hmode] at hf
    exact ⟨hf.ls0, hf.ls1⟩
  · have hf := step_frame h hrst
    rw [observe_raw hmode] at hf
    exact ⟨hf.ls0, hf.ls1⟩

/-! No partial byte. -/

/-- An event that is the data bit `sym` is an edge on the line `sym` (30_encoding.md R71). -/
theorem bits_of_decodeEvent_eq_edgeOf : ∀ (ev : BitVec 2) (sym : BitVec 1), decodeEvent ev = edgeOf sym →
    ev.getLsbD 1 = true ∧ (ev.getLsbD 0).toNat = sym.toNat := by decide

/-- Settles O44: a step with a byte is a cycle with a byte, whose edge is the sampled event. -/
theorem noPartialByteIsEverEmitted : Obligations.NoPartialByteIsEverEmitted := by
  intro s t hmode h hbyte
  cases hrst : s.sample.port.rst with
  | true =>
    rcases step_cases h with ⟨-, rfl⟩ | ⟨hno, -⟩ | ⟨hno, -⟩
    · cases hbyte
    · cases hno.symm.trans hrst
    · cases hno.symm.trans hrst
  | false =>
    have hc := step_edge_cycleTo hmode hrst h
    obtain ⟨sym, cs, hi, hsame, hst, hcnt, heffect, hbyteO⟩ := hc.of_byteV hbyte
    obtain ⟨hreq, hintime, -⟩ : s.sample.fdRstreq = false ∧ _ ∧ _ :=
      prepare_receiving (by rw [hsame]; exact hst) (by rw [hsame]; simp [show s.fdCnt = 7 from hcnt])
    obtain ⟨hedge, hsym⟩ := bits_of_decodeEvent_eq_edgeOf _ _ hi
    refine ⟨hst, hcnt, hreq, rfl, hintime, hedge, ?_, heffect.isIdle⟩
    rw [hbyteO, frameByte_toNat, hsym]
    rfl

end Sys2Proof.Machine
end

section
/-! SUPPORT. The Frame Decoder's boundaries (spec/42_frame_decoder.md R142 to R148, R156) and the bytes placed for the
next step (log entry 11). -/

namespace Sys2Proof.Machine

/-! The phases of a step `d` ticks after the reference time. -/

/-- In AS1: past `T_START` the start-symbol timeout, otherwise nothing (R142). -/
theorem sample_prepare_as1 {s : State} {d : Nat} (hsince : s.since d) (hinv : s.fdInv) (hreq : s.fdRstreq = false)
    (hst : s.fdSt = .as1) :
    s.sample.prepare
      = if s.cfg.tStart < d then (s.sample.clearOut.emitDiag .startTimeout).goIdle else s.sample.clearOut := by
  have hwait := waiting_of_fdInv (s := s.sample) hinv
  have helapsed := elapsed_of_since hsince
  split
  · next hlate =>
    rw [prepare_of_timedOut hwait hreq (.inl ⟨hst, helapsed.symm ▸ hlate⟩), State.timeoutDiag, State.sample_fdSt,
      if_pos hst]
  · next hin =>
    refine prepare_of_not_timedOut hwait hreq ?_
    rintro (⟨-, hlate⟩ | ⟨hrx, -⟩)
    · exact hin (helapsed ▸ hlate)
    · cases hst.symm.trans hrx

/-- In RX: past `T_IDLE`, with bits or a start symbol to wait for, the inactivity timeout, otherwise nothing (R143,
R144). -/
theorem sample_prepare_rx_late {s : State} {d : Nat} (hsince : s.since d) (hreq : s.fdRstreq = false)
    (hst : s.fdSt = .rx) (hlate : s.cfg.tIdle < d) :
    s.sample.prepare
      = if s.cfg.startEn = true ∨ s.fdCnt ≠ 0
        then (s.sample.clearOut.emitDiag (.frameTimeout (s.fdCnt.setWidth 8))).goIdle else s.sample.clearOut := by
  have hwait : s.sample.fdSt ≠ .rx → s.sample.fdCnt = 0 ∧ s.sample.fdBuf = 0 ∧ s.sample.cfg.startEn = true := absurd hst
  have helapsed := elapsed_of_since hsince
  split
  · next hsome =>
    rw [prepare_of_timedOut hwait hreq (.inr ⟨hst, helapsed.symm ▸ hlate, hsome⟩), State.timeoutDiag,
      if_neg (by simp [hst])]
    rfl
  · next hnone =>
    refine prepare_of_not_timedOut hwait hreq ?_
    rintro (⟨has1, -⟩ | ⟨-, -, hsome⟩)
    · cases hst.symm.trans has1
    · exact hnone hsome

/-- Settles O17: the event's own case. -/
theorem oneEdgeInAs1CompletesTheStartSymbol : Obligations.OneEdgeInAs1CompletesTheStartSymbol := execEvOne_as1

/-- Settles O15: in AS1, or in the AS0 that the timeout left, the ZERO edge enters AS1. -/
theorem zeroEdgeInAs1RestartsTheWindow : Obligations.ZeroEdgeInAs1RestartsTheWindow := by
  refine ⟨fun s hst => execEvZero_waiting s (by simp [hst]), fun s d hev hsince hinv hst hreq => ?_⟩
  obtain ⟨hcnt, hbuf, hen⟩ := waiting_of_fdInv hinv (by simp [hst])
  rw [step_of_presents hev, sample_prepare_as1 hsince hinv hreq hst]
  split
  · exact ⟨_, execEvZero_waiting _ (by simp [idleSt_of_startEn hen]), rfl, rfl, rfl, rfl, rfl, rfl, rfl⟩
  · exact ⟨_, execEvZero_waiting _ (by simp [hst]), rfl, rfl, hcnt, hbuf, rfl, rfl, rfl⟩

/-- Settles O18: in AS1 the ONE edge completes the start symbol, in the AS0 that the timeout left it is ignored. -/
theorem startWindowClosesOneTickPastItsLimit : Obligations.StartWindowClosesOneTickPastItsLimit := by
  intro s d hev hsince hinv hst hreq
  obtain ⟨hcnt, hbuf, hen⟩ := waiting_of_fdInv hinv (by simp [hst])
  rw [step_of_presents hev, sample_prepare_as1 hsince hinv hreq hst]
  split
  · next hlate =>
    exact ⟨_, execEvOne_as0 _ (idleSt_of_startEn hen), rfl, rfl, rfl, rfl, fun hin => absurd hlate (not_lt.mpr hin),
      fun _ => ⟨idleSt_of_startEn hen, rfl, rfl⟩⟩
  · next hin =>
    exact ⟨_, execEvOne_as1 _ hst, rfl, rfl, rfl, rfl, fun _ => ⟨rfl, rfl, rfl⟩, fun hlate => absurd hlate hin⟩

/-- Settles O20: without an edge the step is its phases. -/
theorem idleTimeoutDiscardsThePartialFrame : Obligations.IdleTimeoutDiscardsThePartialFrame := by
  intro s d hev hsince hst hreq
  have hp := prepare_same s.sample
  obtain ⟨hcmds, hbyteV, -, -⟩ := prepare_out s.sample
  refine ⟨s.sample.prepare, step_of_presents hev, hp.latch, hp.fn, hcmds, hbyteV, hp.fdTref, fun hin => ?_,
    fun hlate hsome => ?_, fun hlate hen hcnt => ?_⟩
  · rw [sample_prepare_rx hsince hin hreq hst]
    exact ⟨hst, rfl, rfl, rfl⟩
  · rw [sample_prepare_rx_late hsince hreq hst hlate, if_pos hsome, BitVec.ofNat_toNat]
    exact ⟨by simp [State.isIdle], rfl⟩
  · rw [sample_prepare_rx_late hsince hreq hst hlate, if_neg (by simp [hen, hcnt])]
    exact ⟨hst, hcnt, rfl, rfl⟩

/-- With a start symbol, the phases of a cycle more than `T_IDLE` after the reference time never end in RX. -/
theorem prepare_fdSt_ne_rx_of_silence {s : State} (hinv : s.fdInv) (hen : s.cfg.startEn = true)
    (hlate : s.cfg.tIdle < elapsed s.cfg.w s.port.now s.fdTref) : s.prepare.fdSt ≠ .rx := by
  have hidle : idleSt s.cfg ≠ .rx := by simp [idleSt_of_startEn hen]
  cases hreq : s.fdRstreq with
  | true =>
    rw [prepare_of_request hreq]
    exact hidle
  | false =>
    by_cases hdue : s.timedOut
    · rw [prepare_of_timedOut (waiting_of_fdInv hinv) hreq hdue]
      exact hidle
    · rw [prepare_of_not_timedOut (waiting_of_fdInv hinv) hreq hdue]
      exact fun hst => hdue (.inr ⟨hst, hlate, .inl hen⟩)

/-- Settles O48: the phases leave a waiting decoder, whose buffer is empty, and the ZERO edge enters AS1. -/
theorem silenceResynchronisesTheDecoder : Obligations.SilenceResynchronisesTheDecoder := by
  intro s d hev hsince hinv hen hlate
  have hp := prepare_same s.sample
  obtain ⟨hcmds, hbyteV, -, -⟩ := prepare_out s.sample
  have hst : s.sample.prepare.fdSt ≠ .rx :=
    prepare_fdSt_ne_rx_of_silence (s := s.sample) hinv hen ((elapsed_of_since hsince).symm ▸ hlate)
  obtain ⟨hcnt, hbuf, -⟩ := waiting_of_fdInv (prepare_fdInv (s := s.sample) hinv) hst
  rw [step_of_presents hev]
  exact ⟨_, execEvZero_waiting _ hst, rfl, congrArg Input.now hp.port, hcnt, hbuf, prepare_fdRstreq s.sample, hp.latch,
    hp.fn, hcmds, hbyteV⟩

/-! A byte placed for the next step. -/

/-- The seven high bits and the last bit make the byte (42_frame_decoder.md R151). -/
theorem withByte_bits : ∀ b : Byte, (b.extractLsb' 1 7).setWidth 8 * 2 + (b.extractLsb' 0 1).setWidth 8 = b := by decide

theorem frameByte_withByte (s : State) (b : Byte) :
    (s.withByte b).sample.clearOut.frameByte (b.extractLsb' 0 1) = b := withByte_bits b

/-- The step after `withByte b` is `exec` of the byte's instruction where the frame's end leaves the decoder. -/
theorem step_withByte {s : State} (b : Byte) (hvalid : ({ s.cfg with ifMode := .edge } : Config).valid = true) :
    step (s.withByte b)
      = exec (decodePByte s.cfg b) ((s.withByte b).sample.clearOut.endFrame (b.extractLsb' 0 1)) := by
  have hpresents : (s.withByte b).presents (0b1#1 ++ b.extractLsb' 0 1) := ⟨hvalid, rfl, rfl, rfl⟩
  have helapsed : elapsed s.cfg.w (s.port.now % 2 ^ s.cfg.w) (s.port.now % 2 ^ s.cfg.w) = 0 :=
    elapsed_self _ _ (Nat.mod_lt _ (Nat.two_pow_pos _))
  have hprepare : (s.withByte b).sample.prepare = (s.withByte b).sample.clearOut :=
    prepare_eq_clearOut _ rfl nofun fun _ => helapsed.trans_le (Nat.zero_le _)
  rw [step_of_presents hpresents, hprepare, decodeEvent_dataBit, execEdge_rx _ _ rfl, dataBit_full _ _ rfl,
    frameByte_withByte, dispatch_eq_exec]
  rfl

/-- Settles O12: the frame's end is the state that the byte runs from. -/
theorem stagedByteRunsInTheNextStep : Obligations.StagedByteRunsInTheNextStep := by
  intro s b hvalid
  refine ⟨_, step_withByte b hvalid, ?_, rfl, rfl, rfl, by simp [State.isIdle], rfl, rfl⟩
  rw [State.endFrame_out, frameByte_withByte]
  rfl

/-- Settles O50: the emergency clear runs from the idle decoder, and the next step's phases only honour its request. -/
theorem emergencyClearIsImmediateAndDoneOnce : Obligations.EmergencyClearIsImmediateAndDoneOnce := by
  intro s hvalid
  refine ⟨_, step_withByte 0x9E hvalid, rfl, rfl, rfl, by simp [State.isIdle], rfl, fun d hev _ => ?_⟩
  refine ⟨_, step_of_presents hev, ?_⟩
  rw [prepare_of_request rfl]
  exact ⟨rfl, by simp [State.isIdle], rfl, rfl, rfl, rfl⟩

end Sys2Proof.Machine
end

section
/-! SUPPORT. Whole frames (spec/42_frame_decoder.md R155): the host's edges of a byte, run step by step, form that byte
and run its instruction. -/

namespace Sys2Proof.Machine

/-! The next input, and the step it makes. -/

theorem nextInput_of_inputs {s : State} {i : Input} {rest : List Input} (h : s.inputs = i :: rest) :
    s.nextInput = i := by
  simp [State.nextInput, h]

/-- The event at the head of the host's inputs is the one the next EDGE step presents. -/
theorem presents_of_inputs {s : State} {i : Input} {rest : List Input} (hvalid : s.cfg.valid = true)
    (hmode : s.cfg.ifMode = .edge) (h : s.inputs = i :: rest) (hrst : i.rst = false) : s.presents i.ev := by
  have hnext := nextInput_of_inputs h
  exact ⟨hvalid, hmode, by rw [State.sample_port, hnext]; exact hrst, by rw [State.sample_port, hnext]⟩

/-- An input `d` ticks after the one that wrote the reference time, a wrap included. -/
theorem since_of_inputs {s : State} {i : Input} {rest : List Input} {t d : Nat} (h : s.inputs = i :: rest)
    (hnow : i.now = t + d) (htref : s.fdTref = t % 2 ^ s.cfg.w) (hd : d < 2 ^ s.cfg.w) : s.since d := by
  refine ⟨hd, ?_⟩
  rw [State.sample_port, nextInput_of_inputs h, htref, Nat.mod_add_mod, hnow]

/-- A valid configuration's timeouts fit in the timestamps (00_scope.md R7). -/
theorem timeouts_lt_of_valid {c : Config} (h : c.valid = true) : c.tStart < c.tIdle ∧ c.tIdle < 2 ^ c.w := by
  simp only [Config.valid, Bool.and_eq_true, decide_eq_true_eq] at h
  obtain ⟨⟨⟨-, hlt⟩, hmax⟩, -⟩ := h
  exact ⟨hlt, hmax.trans_le (Nat.pow_le_pow_right (by decide) (Nat.sub_le _ _))⟩

/-- The input of a data bit (30_encoding.md R74, R85). -/
theorem dataEdge_eq (sym : Bool) (t : Nat) :
    Input.dataEdge sym t = { rst := false, now := t, ev := 0b1#1 ++ BitVec.ofBool sym, raw := 0b11 } := by
  cases sym <;> rfl

/-! A run that forms a byte at its last step. -/

/-- The first `n - 1` steps from `s` emit nothing; the `n`th forms `b`, runs its instruction from the dispatcher's state
as it was in `s`, and leaves the decoder idle with `rest` of the host's inputs to come. -/
def FormsByte (n : Nat) (b : Byte) (rest : List Input) (s : State) : Prop :=
  (∀ k : Nat, 0 < k → k < n → ∃ u, Host.Core.run Sys2Proof.core k s = .next u ∧ State.out u = Outputs.empty)
    ∧ ∃ p u : State, Host.Core.run Sys2Proof.core n s = .next u ∧ exec (decodePByte s.cfg b) p = .next u
      ∧ p.latch = s.latch ∧ p.fn = s.fn ∧ p.out.cmds = [] ∧ u.out.byteV = true ∧ u.out.byteO = b
      ∧ u.fdSt = idleSt s.cfg ∧ u.fdCnt = 0 ∧ u.fdBuf = 0 ∧ u.inputs = rest

/-- The first step of a run. -/
theorem run_succ {s t : State} (h : step s = .next t) (k : Nat) :
    Host.Core.run Sys2Proof.core (k + 1) s = Host.Core.run Sys2Proof.core k t := by
  have hcore : Sys2Proof.core.step s = .next t := h
  simp only [Host.Core.run, hcore]

/-- A step that emits nothing and leaves the dispatcher alone comes before a run that forms a byte. -/
theorem FormsByte.of_silent_step {n : Nat} {b : Byte} {rest : List Input} {s t : State} (h : step s = .next t)
    (hout : t.out = Outputs.empty) (hcfg : t.cfg = s.cfg) (hlatch : t.latch = s.latch) (hfn : t.fn = s.fn)
    (ht : FormsByte n b rest t) : FormsByte (n + 1) b rest s := by
  obtain ⟨hsilent, p, u, hrun, hexec, hpl, hpf, hlast⟩ := ht
  refine ⟨fun k hpos hlt => ?_, p, u, (run_succ h n).trans hrun, hcfg ▸ hexec, hpl.trans hlatch, hpf.trans hfn,
    hcfg ▸ hlast⟩
  obtain ⟨k, rfl⟩ := Nat.exists_eq_add_of_lt hpos
  rw [Nat.zero_add, run_succ h]
  rcases Nat.eq_zero_or_pos k with rfl | hk
  · exact ⟨t, rfl, hout⟩
  · exact hsilent k hk (by omega)

/-! The data bits. -/

/-- `s` waits for `n` more bits before the last one, and its next step takes no timeout. -/
structure AwaitsBits (n : Nat) (s : State) : Prop where
  valid : s.cfg.valid = true
  mode  : s.cfg.ifMode = .edge
  st    : s.fdSt = .rx
  req   : s.fdRstreq = false
  count : s.fdCnt.toNat + n = 7
  buf   : s.fdBuf.toNat < 2 ^ s.fdCnt.toNat
  quiet : s.sample.prepare = s.sample.clearOut

/-- Before the last bit the buffer has room. -/
theorem AwaitsBits.room {n : Nat} {s : State} (h : AwaitsBits (n + 1) s) : s.sample.clearOut.fdCnt.toNat < 7 := by
  have hcount := h.count
  show s.fdCnt.toNat < 7
  omega

/-- The step of a data bit, where no timeout is taken. -/
theorem AwaitsBits.step_eq {n : Nat} {s : State} (h : AwaitsBits n s) {sym : Bool} {t : Nat} {rest : List Input}
    (hin : s.inputs = Input.dataEdge sym t :: rest) : step s = dataBit (BitVec.ofBool sym) s.sample.clearOut := by
  rw [dataEdge_eq] at hin
  rw [step_of_presents (presents_of_inputs h.valid h.mode hin rfl), h.quiet, decodeEvent_dataBit]
  exact execEdge_rx _ s.sample.clearOut h.st

/-- With room in the buffer the bit is taken, and `d` ticks later the next one still comes in time. -/
theorem AwaitsBits.push {n : Nat} {s : State} (h : AwaitsBits (n + 1) s) {sym next : Bool} {t d : Nat}
    {rest : List Input} (hd : d ≤ s.cfg.tIdle)
    (hin : s.inputs = Input.dataEdge sym t :: Input.dataEdge next (t + d) :: rest) :
    step s = .next (s.sample.clearOut.pushBit (BitVec.ofBool sym))
      ∧ AwaitsBits n (s.sample.clearOut.pushBit (BitVec.ofBool sym)) := by
  have hcount := h.count
  have hroom := h.room
  have hcnt := pushBit_fdCnt_toNat (BitVec.ofBool sym) s.sample.clearOut hroom
  have hbuf := pushBit_fdBuf_toNat (BitVec.ofBool sym) s.sample.clearOut h.buf hroom
  have hlt := (BitVec.ofBool sym).isLt
  have hold : s.sample.clearOut.fdBuf.toNat < 2 ^ s.sample.clearOut.fdCnt.toNat := h.buf
  refine ⟨?_, h.valid, h.mode, h.st, h.req, ?_, ?_, ?_⟩
  · rw [h.step_eq hin, dataBit_room _ _ fun hfull => by rw [hfull] at hroom; exact absurd hroom (by decide)]
  · rw [hcnt, State.clearOut_fdCnt, State.sample_fdCnt]
    omega
  · rw [hcnt, hbuf, pow_succ]
    omega
  · refine sample_prepare_rx (d := d) ?_ hd h.req h.st
    refine since_of_inputs (i := Input.dataEdge next (t + d)) (rest := rest) (t := t) ?_ ?_ ?_ ?_
    · rw [State.pushBit_inputs, State.clearOut_inputs, State.sample_inputs, hin, List.tail_cons]
    · rw [dataEdge_eq]
    · rw [State.pushBit_fdTref, State.clearOut_port, State.sample_port, nextInput_of_inputs hin, dataEdge_eq]
      rfl
    · exact hd.trans_lt (timeouts_lt_of_valid h.valid).2

/-- With seven bits in the buffer the next one forms the byte. -/
theorem AwaitsBits.last {s : State} (h : AwaitsBits 0 s) {sym : Bool} {t : Nat} {rest : List Input} {b : Byte}
    (hin : s.inputs = Input.dataEdge sym t :: rest) (hb : b.toNat = 2 * s.fdBuf.toNat + sym.toNat) :
    FormsByte 1 b rest s := by
  have hfull : s.fdCnt = 7 := BitVec.eq_of_toNat_eq h.count
  have hbyte : s.sample.clearOut.frameByte (BitVec.ofBool sym) = b := by
    apply BitVec.eq_of_toNat_eq
    rw [frameByte_toNat, hb, BitVec.toNat_ofBool]
    rfl
  obtain ⟨u, hu, hsame⟩ := dispatch_next b (s.sample.clearOut.endFrame (BitVec.ofBool sym))
  have hstep : step s = .next u := by rw [h.step_eq hin, dataBit_full _ s.sample.clearOut hfull, hbyte, hu]
  refine ⟨fun k hpos hlt => by omega, s.sample.clearOut.endFrame (BitVec.ofBool sym), u, run_succ hstep 0,
    (dispatch_eq_exec b _).symm.trans hu, rfl, rfl, rfl, ?_, ?_, ?_, ?_, ?_, ?_⟩
  · exact hsame.byteV
  · exact hsame.byteO.trans hbyte
  · exact hsame.fdSt
  · exact hsame.fdCnt
  · exact hsame.fdBuf
  · exact hsame.inputs.trans (by simp [hin])

/-- The bits of `v` from bit `n` down, taken after the bits in the buffer, form the byte they make together. -/
theorem AwaitsBits.formsByte (v d : Nat) (rest : List Input) (b : Byte) (n : Nat) : ∀ (s : State) (t : Nat),
    AwaitsBits n s → d ≤ s.cfg.tIdle → s.inputs = bitEdges v (n + 1) t d ++ rest →
    b.toNat = s.fdBuf.toNat * 2 ^ (n + 1) + v % 2 ^ (n + 1) → FormsByte (n + 1) b rest s := by
  induction n with
  | zero =>
    intro s t h hd hin hb
    refine h.last hin ?_
    rw [hb, Nat.toNat_testBit, pow_zero]
    omega
  | succ n ih =>
    intro s t h hd hin hb
    obtain ⟨hstep, hnext⟩ := h.push hd hin
    refine .of_silent_step hstep rfl rfl rfl rfl (ih _ (t + d) hnext hd ?_ ?_)
    · simp [hin, bitEdges]
    · rw [pushBit_fdBuf_toNat _ s.sample.clearOut h.buf h.room, hb, Nat.mod_pow_succ, ← Nat.toNat_testBit,
        BitVec.toNat_ofBool, State.clearOut_fdBuf, State.sample_fdBuf, pow_succ _ (n + 1)]
      ring

/-! The start symbol. -/

/-- The first edge of a start symbol, in AS0 with an empty buffer (R145). -/
theorem step_startEdge {s : State} {t : Nat} {rest : List Input} (hvalid : s.cfg.valid = true)
    (hmode : s.cfg.ifMode = .edge) (hreq : s.fdRstreq = false) (hst : s.fdSt = .as0) (hcnt : s.fdCnt = 0)
    (hin : s.inputs = Input.zero t :: rest) : step s = .next s.sample.clearOut.enterAs1 := by
  rw [step_of_presents (presents_of_inputs hvalid hmode hin rfl),
    prepare_eq_clearOut s.sample hreq (by simp [hst]) (by simp [hst, hcnt])]
  exact execEvZero_waiting s.sample.clearOut (by simp [hst])

/-- The second edge, within `T_START` of the first (R148). -/
theorem step_startEnd {s : State} {t d : Nat} {rest : List Input} (hvalid : s.cfg.valid = true)
    (hmode : s.cfg.ifMode = .edge) (hreq : s.fdRstreq = false) (hst : s.fdSt = .as1) (hcnt : s.fdCnt = 0)
    (hin : s.inputs = Input.one t :: rest) (hsince : s.since d) (hd : d ≤ s.cfg.tStart) :
    step s = .next s.sample.clearOut.enterRx := by
  rw [step_of_presents (presents_of_inputs hvalid hmode hin rfl),
    prepare_eq_clearOut s.sample hreq (fun _ => (elapsed_of_since hsince).trans_le hd) (by simp [hst, hcnt])]
  exact execEvOne_as1 s.sample.clearOut hst

/-- A decoder that has just entered RX, its next edge in time, waits for eight bits. -/
theorem awaitsBits_enterRx {s : State} {d : Nat} (hvalid : s.cfg.valid = true) (hmode : s.cfg.ifMode = .edge)
    (hreq : s.fdRstreq = false) (hsince : s.enterRx.since d) (hd : d ≤ s.cfg.tIdle) : AwaitsBits 7 s.enterRx :=
  ⟨hvalid, hmode, rfl, hreq, rfl, by simp, sample_prepare_rx hsince hd hreq rfl⟩

/-! The statements. -/

/-- Settles O47: an idle decoder without a start symbol waits for eight bits. -/
theorem frameWithoutStartSymbolYieldsItsByte : Obligations.FrameWithoutStartSymbolYieldsItsByte := by
  intro s b t d rest hvalid hmode hen hidle hreq hd hin
  obtain ⟨hst, hcnt, hbuf⟩ := (isIdle_iff s).mp hidle
  have hrx : s.fdSt = .rx := hst.trans (idleSt_of_not_startEn hen)
  have hawaits : AwaitsBits 7 s := by
    refine ⟨hvalid, hmode, hrx, hreq, by simp [hcnt], by simp [hbuf, hcnt], ?_⟩
    exact prepare_of_not_timedOut (s := s.sample) (absurd hrx) hreq (by simp [State.timedOut, hrx, hen, hcnt])
  have hforms : FormsByte 8 b rest s := by
    refine hawaits.formsByte b.toNat d rest b 7 s t hd ?_ ?_
    · simpa [frameEdges, hen] using hin
    · simp [hbuf, Nat.mod_eq_of_lt b.isLt]
  unfold FormsByte at hforms
  rw [idleSt_of_not_startEn hen] at hforms
  exact hforms

/-- Settles O46: the two edges of the start symbol lead to a decoder that waits for eight bits. -/
theorem frameWithStartSymbolYieldsItsByte : Obligations.FrameWithStartSymbolYieldsItsByte := by
  intro s b t d rest hvalid hmode hen hidle hreq hd hin
  obtain ⟨hst, hcnt, hbuf⟩ := (isIdle_iff s).mp hidle
  have has0 : s.fdSt = .as0 := hst.trans (idleSt_of_startEn hen)
  obtain ⟨hlt, hmax⟩ := timeouts_lt_of_valid hvalid
  have hin : s.inputs = .zero t :: .one (t + d) :: (bitEdges b.toNat 8 (t + 2 * d) d ++ rest) := by
    simpa [frameEdges, hen, startEdges] using hin
  have hstart := step_startEdge hvalid hmode hreq has0 hcnt hin
  have hin1 : s.sample.clearOut.enterAs1.inputs = .one (t + d) :: (bitEdges b.toNat 8 (t + 2 * d) d ++ rest) := by
    simp [hin]
  have hsince1 : s.sample.clearOut.enterAs1.since d := by
    refine since_of_inputs hin1 rfl ?_ ((hd.trans_lt hlt).trans hmax)
    simp [nextInput_of_inputs hin, Input.zero]
  have hend := step_startEnd (s := s.sample.clearOut.enterAs1) hvalid hmode hreq rfl hcnt hin1 hsince1 hd
  have hin2 : s.sample.clearOut.enterAs1.sample.clearOut.enterRx.inputs = bitEdges b.toNat 8 (t + 2 * d) d ++ rest := by
    simp [hin]
  have hsince2 : s.sample.clearOut.enterAs1.sample.clearOut.enterRx.since d := by
    refine since_of_inputs (t := t + d) hin2 ?_ ?_ ((hd.trans_lt hlt).trans hmax)
    · rw [dataEdge_eq]
      show t + 2 * d = t + d + d
      omega
    · simp [nextInput_of_inputs hin1, Input.one]
  have hawaits :=
    awaitsBits_enterRx (s := s.sample.clearOut.enterAs1.sample.clearOut) hvalid hmode hreq hsince2 (hd.trans hlt.le)
  have hforms : FormsByte 10 b rest s := by
    refine .of_silent_step hstart rfl rfl rfl rfl (.of_silent_step hend rfl rfl rfl rfl ?_)
    exact hawaits.formsByte b.toNat d rest b 7 _ _ (hd.trans hlt.le) hin2 (by simp [Nat.mod_eq_of_lt b.isLt])
  unfold FormsByte at hforms
  rw [idleSt_of_startEn hen] at hforms
  exact hforms

end Sys2Proof.Machine
end

section
/-! SUPPORT. Idle cycles (spec/40_cycle.md R105): a cycle without an edge before an edge changes at most what the edge's
step shows as its diagnostic. -/

namespace Sys2Proof.Machine

/-- `s` with another step count and another diagnostic shown: what an idle cycle in between may make of a state. -/
def State.reshown (n : Nat) (d : Diag) (s : State) : State := { s with cycles := n, out := { s.out with diag := d } }

/-- `s` with the host's inputs `l` to come. -/
def State.withInputs (l : List Input) (s : State) : State := { s with inputs := l }

/-- The state sampled from an input at hand. -/
theorem sample_eq_of_inputs {s : State} {i : Input} {rest : List Input} (h : s.inputs = i :: rest) :
    s.sample = { s with port := { i with now := i.now % 2 ^ s.cfg.w }, inputs := rest, cycles := s.cycles + 1 } := by
  rw [State.sample, nextInput_of_inputs h, h, List.tail_cons]

/-! No meaning reads the step count or the diagnostic. -/

theorem State.wrapTap_reshown (s : State) (n : Nat) (d : Diag) (m : ModIdx) (k : Key) :
    (s.reshown n d).wrapTap m k = (s.wrapTap m k).reshown n d := rfl

/-- A byte's meaning is the same, whatever is shown before it. -/
theorem dispatch_reshown (b : Byte) (s : State) (n : Nat) (d : Diag) :
    ∃ t d', dispatch b s = .next t ∧ dispatch b (s.reshown n d) = .next (t.reshown n d') := by
  have hcfg : (s.reshown n d).cfg = s.cfg := rfl
  unfold dispatch
  rw [hcfg]
  cases hclass : classOf s.cfg b with
  | ctrlchr | nav | caps | eclr => exact ⟨_, d, rfl, rfl⟩
  | unk => exact ⟨_, .unknown b, rfl, rfl⟩
  | print =>
    cases hchar : s.cfg.charTable[operandC b] with
    | none => exact ⟨_, d, exec_print_of_none hchar, exec_print_of_none (s := s.reshown n d) hchar⟩
    | some e =>
      refine ⟨_, d, exec_print_of_some hchar, (exec_print_of_some (s := s.reshown n d) hchar).trans ?_⟩
      cases e.shift <;> rfl
  | fkey =>
    have hsame : layerMod (operandFkey b) (s.reshown n d) = layerMod (operandFkey b) s := rfl
    cases hlayer : layerMod (operandFkey b) s with
    | none => exact ⟨_, d, exec_fkey_of_not_layered hlayer, exec_fkey_of_not_layered (hsame.trans hlayer)⟩
    | some m =>
      refine ⟨_, d, exec_fkey_of_layered hlayer, (exec_fkey_of_layered (hsame.trans hlayer)).trans ?_⟩
      rw [s.wrapTap_reshown]
  | modp =>
    cases hmode : s.cfg.modMode with
    | pressRelease =>
      exact ⟨_, d, exec_modp_pressRelease _ hmode, exec_modp_pressRelease (s := s.reshown n d) _ hmode⟩
    | toggle =>
      have hlatch : (s.reshown n d).latch = s.latch := rfl
      refine ⟨_, d, exec_modp_toggle _ hmode, (exec_modp_toggle (s := s.reshown n d) _ hmode).trans ?_⟩
      rw [hlatch]
      cases latchBit s.latch (operandK b) <;> rfl
  | modr =>
    have hmode : s.cfg.modMode = .pressRelease :=
      eq_of_beq (Bool.and_eq_true_iff.mp (covers_of_classOf hclass)).2
    exact ⟨_, d, exec_modr_pressRelease _ hmode, exec_modr_pressRelease (s := s.reshown n d) _ hmode⟩
  | fnon =>
    have hen : s.cfg.fnEn = true := (Bool.and_eq_true_iff.mp (covers_of_classOf hclass)).2
    exact ⟨_, d, exec_fnon_of_fnEn hen, exec_fnon_of_fnEn (s := s.reshown n d) hen⟩
  | fnoff =>
    have hen : s.cfg.fnEn = true := (Bool.and_eq_true_iff.mp (covers_of_classOf hclass)).2
    exact ⟨_, d, exec_fnoff_of_fnEn hen, exec_fnoff_of_fnEn (s := s.reshown n d) hen⟩

/-- An event's meaning is the same, whatever is shown before it. -/
theorem exec_reshown {i : Instr} (hi : IsEvent i) (s : State) (n : Nat) (d : Diag) :
    ∃ t d', exec i s = .next t ∧ exec i (s.reshown n d) = .next (t.reshown n d') := by
  cases hi with
  | none => exact ⟨s, d, rfl, rfl⟩
  | edge sym =>
    by_cases hst : s.fdSt = .rx
    · rw [execEdge_rx sym s hst, execEdge_rx sym (s.reshown n d) hst]
      by_cases hcnt : s.fdCnt = 7
      · rw [dataBit_full sym s hcnt, dataBit_full sym (s.reshown n d) hcnt]
        exact dispatch_reshown _ (s.endFrame sym) n d
      · exact ⟨_, d, dataBit_room sym s hcnt, dataBit_room sym (s.reshown n d) hcnt⟩
    · rcases bit_cases sym with rfl | rfl
      · exact ⟨_, d, execEvZero_waiting s hst, execEvZero_waiting (s.reshown n d) hst⟩
      · cases hwait : s.fdSt with
        | as0 => exact ⟨_, d, execEvOne_as0 s hwait, execEvOne_as0 (s.reshown n d) hwait⟩
        | as1 => exact ⟨_, d, execEvOne_as1 s hwait, execEvOne_as1 (s.reshown n d) hwait⟩
        | rx => exact absurd hwait hst

/-! The phases. -/

/-- A timeout that is due stays due. -/
theorem State.timedOut.later {s t : State} (h : s.timedOut) (hcfg : t.cfg = s.cfg) (hst : t.fdSt = s.fdSt)
    (hcnt : t.fdCnt = s.fdCnt)
    (hle : elapsed s.cfg.w s.port.now s.fdTref ≤ elapsed t.cfg.w t.port.now t.fdTref) : t.timedOut := by
  unfold State.timedOut
  rw [hst, hcnt, hcfg] at *
  rcases h with ⟨has1, hlate⟩ | ⟨hrx, hlate, hsome⟩
  · exact .inl ⟨has1, hlate.trans_le hle⟩
  · exact .inr ⟨hrx, hlate.trans_le hle, hsome⟩

/-- The phases do not read the step count, and clear what is shown. -/
theorem prepare_reshown {s : State} (hwait : s.fdSt ≠ .rx → s.fdCnt = 0 ∧ s.fdBuf = 0 ∧ s.cfg.startEn = true)
    (hreq : s.fdRstreq = false) (n : Nat) :
    ∃ d, (s.clearOut.reshown n .none).prepare = s.prepare.reshown n d := by
  by_cases hdue : s.timedOut
  · refine ⟨s.timeoutDiag, ?_⟩
    rw [prepare_of_timedOut hwait hreq hdue, prepare_of_timedOut (s := s.clearOut.reshown n .none) hwait hreq hdue]
    rfl
  · refine ⟨.none, ?_⟩
    rw [prepare_of_not_timedOut hwait hreq hdue,
      prepare_of_not_timedOut (s := s.clearOut.reshown n .none) hwait hreq hdue]
    rfl

/-- The phases of the edge's cycle leave the same state, but for what is shown, with the idle cycle and without it: what
the idle cycle timed out is timed out at the edge as well, and an idle decoder times out no more. -/
theorem prepare_after_idle_cycle {s : State} {a b : Input} {rest : List Input} (hinv : s.fdInv)
    (hin : s.inputs = a :: b :: rest)
    (hle : elapsed s.cfg.w (a.now % 2 ^ s.cfg.w) s.fdTref ≤ elapsed s.cfg.w (b.now % 2 ^ s.cfg.w) s.fdTref) :
    ∃ n d, s.sample.prepare.sample.prepare = ((s.withInputs (b :: rest)).sample.prepare).reshown n d := by
  have hwait := waiting_of_fdInv (s := s.sample) hinv
  have hnow : s.sample.port.now = a.now % 2 ^ s.cfg.w := by rw [State.sample_port, nextInput_of_inputs hin]
  have hedge := sample_eq_of_inputs (s := s.sample.prepare) (i := b) (rest := rest)
    (by rw [(prepare_same s.sample).inputs, State.sample_inputs, hin, List.tail_cons])
  have hidle (hst : s.sample.prepare.fdSt = idleSt s.sample.prepare.cfg) (hcnt : s.sample.prepare.fdCnt = 0) :
      s.sample.prepare.sample.prepare = s.sample.prepare.sample.clearOut := by
    rw [prepare_of_no_request (s := s.sample.prepare.sample) (prepare_fdRstreq s.sample)]
    exact fdTimeoutPhase_of_idle hst hcnt
  cases hreq : s.fdRstreq with
  | true =>
    have hfirst := prepare_of_request (s := s.sample) hreq
    refine ⟨s.cycles + 2, .none, ?_⟩
    rw [hidle (by rw [hfirst]; rfl) (by rw [hfirst]; rfl), hedge, hfirst,
      prepare_of_request (s := (s.withInputs (b :: rest)).sample) hreq]
    rfl
  | false =>
    by_cases hdue : s.sample.timedOut
    · have hfirst := prepare_of_timedOut hwait hreq hdue
      have hdue' : (s.withInputs (b :: rest)).sample.timedOut := hdue.later rfl rfl rfl (by rw [hnow]; exact hle)
      refine ⟨s.cycles + 2, .none, ?_⟩
      rw [hidle (by rw [hfirst]; rfl) (by rw [hfirst]; rfl), hedge, hfirst,
        prepare_of_timedOut (s := (s.withInputs (b :: rest)).sample) hwait hreq hdue']
      rfl
    · have hkept : s.sample.prepare.sample
          = (s.withInputs (b :: rest)).sample.clearOut.reshown (s.cycles + 2) .none := by
        rw [hedge, prepare_of_not_timedOut hwait hreq hdue]
        rfl
      rw [hkept]
      obtain ⟨d, h⟩ := prepare_reshown (s := (s.withInputs (b :: rest)).sample) hwait hreq (s.cycles + 2)
      exact ⟨_, d, h⟩

/-- Settles O49: the event runs from the same state but for what is shown. -/
theorem idleCyclesDoNotChangeFraming : Obligations.IdleCyclesDoNotChangeFraming := by
  intro s a b rest hvalid hmode hinv hin ha hatick hb hbev hle
  obtain ⟨n, d, hsame⟩ := prepare_after_idle_cycle hinv hin hle
  have hidle : step s = .next s.sample.prepare := by
    have hpresents := presents_of_inputs hvalid hmode hin ha
    rw [hatick] at hpresents
    exact step_of_presents hpresents
  have hwithout := step_of_presents (presents_of_inputs (s := s.withInputs (b :: rest)) hvalid hmode rfl hb)
  have hframe := prepare_same s.sample
  have hwith : step s.sample.prepare = exec (decodeEvent b.ev) s.sample.prepare.sample.prepare := by
    refine step_of_presents (presents_of_inputs (rest := rest) ?_ ?_ ?_ hb)
    · rw [hframe.cfg]; exact hvalid
    · rw [hframe.cfg]; exact hmode
    · rw [hframe.inputs, State.sample_inputs, hin, List.tail_cons]
  obtain ⟨x, d', hx, hv⟩ := exec_reshown (isEvent_decodeEvent hbev) (s.withInputs (b :: rest)).sample.prepare n d
  exact ⟨_, x.reshown n d', x, hidle, by rw [hwith, hsame, hv], hwithout.trans hx, rfl, rfl, rfl, rfl, rfl, rfl, rfl,
    rfl, rfl, rfl, rfl⟩

end Sys2Proof.Machine
end

section
/-! SUPPORT. The Line Sampler's statements (spec/41_line_sampler.md), and the reset values (70_reset_and_hazards.md
R270, 00_scope.md R6). -/

namespace Sys2Proof.Machine

/-! One sample. -/

/-- A sample of another level than the last one starts the debounce interval. -/
theorem lineSample_of_ne {c : Config} {now : Nat} {level : Bool} {l : LineState} (h : level ≠ l.raw) :
    l.sample c now level = ({ l with raw := level, tchg := now }, false) := if_pos h

/-- A stable level that differs from the debounced one is accepted; an accepted fall is an edge. -/
theorem lineSample_of_stable {c : Config} {now : Nat} {level : Bool} {l : LineState} (hraw : level = l.raw)
    (hdb : level ≠ l.db) (hstable : c.tDb ≤ elapsed c.w now l.tchg) :
    l.sample c now level = ({ l with db := level }, !level) := by
  rw [LineState.sample, if_neg (not_not.mpr hraw), if_pos ⟨hdb, hstable⟩]

/-- Otherwise nothing happens. -/
theorem lineSample_of_settled {c : Config} {now : Nat} {level : Bool} {l : LineState} (hraw : level = l.raw)
    (h : level = l.db ∨ elapsed c.w now l.tchg < c.tDb) : l.sample c now level = (l, false) := by
  rw [LineState.sample, if_neg (not_not.mpr hraw), if_neg]
  rintro ⟨hdb, hstable⟩
  rcases h with h | h
  · exact hdb h
  · omega

/-- Settles O51: each row is one of the three cases of a sample. -/
theorem debouncerFollowsItsTable : Obligations.DebouncerFollowsItsTable := by
  intro c now l stable
  refine ⟨fun db lvl hdb hraw => ?_, fun lvl hraw hdb => ?_, fun lvl hraw hdb hun => ?_, fun hraw hdb hst => ?_,
    fun hraw hdb hst => ?_⟩
  · rw [lineSample_of_ne hraw.symm, hdb]
  · exact lineSample_of_settled hraw.symm (.inl hdb.symm)
  · exact lineSample_of_settled hraw.symm (.inr (not_le.mp hun))
  · rw [lineSample_of_stable hraw.symm (by simp [hdb]) hst, hraw]
    rfl
  · rw [lineSample_of_stable hraw.symm (by simp [hdb]) hst, hraw]
    rfl

/-- Settles O52: only the accepting case has an event, and only on a fall. -/
theorem onlyAStableFallIsAnEdge : Obligations.OnlyAStableFallIsAnEdge := by
  intro c now level l
  rcases lineSample_cases c now level l with ⟨hraw, h⟩ | ⟨hraw, hdb, hstable, h⟩ | ⟨hraw, hkept, h⟩ <;> rw [h]
  · refine iff_of_false nofun ?_
    rintro ⟨hlevel, hlow, -, -⟩
    exact hraw (hlevel.trans hlow.symm)
  · cases level
    · simp_all
    · simp
  · refine iff_of_false nofun ?_
    rintro ⟨hlevel, -, hhigh, hstable⟩
    rcases hkept with hkept | hkept
    · cases (hlevel.symm.trans hkept).trans hhigh
    · omega

/-! Many samples. -/

/-- Samples in two parts: the second from where the first ends. -/
theorem samples_append (c : Config) (xs ys : List (Nat × Bool)) : ∀ l : LineState,
    l.samples c (xs ++ ys)
      = (((l.samples c xs).1.samples c ys).1, (l.samples c xs).2 ++ ((l.samples c xs).1.samples c ys).2) := by
  induction xs with
  | nil => intro l; rfl
  | cons x xs ih => intro l; simp only [List.cons_append, LineState.samples, ih]

/-- Active samples at the times `ts`. -/
def activeSamples (ts : List Nat) : List (Nat × Bool) := ts.map fun t => (t, false)

/-- Active samples within `T_DB` of the fall leave the line falling, without an event. -/
theorem samples_falling {c : Config} {l : LineState} (hraw : l.raw = false) : ∀ ts : List Nat,
    (∀ t ∈ ts, elapsed c.w t l.tchg < c.tDb) →
    l.samples c (activeSamples ts) = (l, List.replicate ts.length false) := by
  intro ts
  induction ts with
  | nil => intro _; rfl
  | cons t ts ih =>
    intro hts
    have hone : l.sample c t false = (l, false) := lineSample_of_settled hraw.symm (.inr (hts t List.mem_cons_self))
    have hmore := ih fun x hx => hts x (List.mem_cons_of_mem t hx)
    simp only [activeSamples, List.map_cons, LineState.samples, hone, List.length_cons, List.replicate_succ]
    rw [← activeSamples, hmore]

/-- Active samples of an active line leave it, without an event, however long it is held. -/
theorem samples_active {c : Config} {l : LineState} (hraw : l.raw = false) (hdb : l.db = false) : ∀ ts : List Nat,
    l.samples c (activeSamples ts) = (l, List.replicate ts.length false) := by
  intro ts
  induction ts with
  | nil => rfl
  | cons t ts ih =>
    have hone : l.sample c t false = (l, false) := lineSample_of_settled hraw.symm (.inl hdb.symm)
    simp only [activeSamples, List.map_cons, LineState.samples, hone, List.length_cons, List.replicate_succ]
    rw [← activeSamples, ih]

/-- The first active sample that is stable makes the line active, with the only event. -/
theorem samples_held {c : Config} {l : LineState} (hraw : l.raw = false) (hdb : l.db = true) : ∀ ts : List Nat,
    (∃ t ∈ ts, c.tDb ≤ elapsed c.w t l.tchg) →
    (l.samples c (activeSamples ts)).1 = { l with db := false }
      ∧ (l.samples c (activeSamples ts)).2.count true = 1 := by
  intro ts
  induction ts with
  | nil => simp
  | cons t ts ih =>
    intro hsome
    by_cases hstable : c.tDb ≤ elapsed c.w t l.tchg
    · have hone : l.sample c t false = ({ l with db := false }, true) :=
        lineSample_of_stable hraw.symm (by simp [hdb]) hstable
      have hmore := samples_active (c := c) (l := { l with db := false }) hraw rfl ts
      simp only [activeSamples, List.map_cons, LineState.samples, hone]
      rw [← activeSamples, hmore]
      simp [List.count_replicate]
    · have hone : l.sample c t false = (l, false) := lineSample_of_settled hraw.symm (.inr (not_le.mp hstable))
      have hmore := ih (by simpa [hstable] using hsome)
      simp only [activeSamples, List.map_cons, LineState.samples, hone]
      simpa [activeSamples] using hmore

/-- Settles O53: the fall, the samples within `T_DB` of it, and the rise, which finds the line still inactive. -/
theorem shortPulseIsNeverReported : Obligations.ShortPulseIsNeverReported := by
  intro c l t0 t1 ts hdb hraw hts
  have hfall : l.sample c t0 false = ({ db := true, raw := false, tchg := t0 }, false) := by
    rw [lineSample_of_ne (by simp [hraw]), hdb]
  have hstay := samples_falling (c := c) (l := { db := true, raw := false, tchg := t0 }) rfl ts hts
  have hrise : ({ db := true, raw := false, tchg := t0 } : LineState).sample c t1 true
      = ({ db := true, raw := true, tchg := t1 }, false) := lineSample_of_ne nofun
  rw [← activeSamples, samples_append]
  simp [LineState.samples, hfall, hstay, hrise]

/-- Settles O54: the fall, and then the first stable sample. -/
theorem heldPulseIsReportedOnce : Obligations.HeldPulseIsReportedOnce := by
  intro c l t0 ts hdb hraw hts
  have hfall : l.sample c t0 false = ({ db := true, raw := false, tchg := t0 }, false) := by
    rw [lineSample_of_ne (by simp [hraw]), hdb]
  have hheld := samples_held (c := c) (l := { db := true, raw := false, tchg := t0 }) rfl rfl ts hts
  rw [← activeSamples]
  simpa [LineState.samples, hfall] using hheld

/-! The reset values. -/

/-- Settles O1: the registers by definition, the parameters and the tables entry by entry. -/
theorem resetStateHoldsTheResetValues : Obligations.ResetStateHoldsTheResetValues := by
  refine ⟨⟨rfl, rfl, rfl, rfl, rfl, rfl, rfl, rfl, rfl⟩, ⟨rfl, rfl, rfl, rfl, rfl, rfl, rfl, rfl, rfl, by decide⟩,
    ?_, rfl, ?_, ?_, ?_, ?_⟩
  · decide
  · decide
  · decide
  · intro p hp
    fin_cases hp <;> rfl
  · intro p hp
    fin_cases hp <;> rfl

end Sys2Proof.Machine
end
